-- ==== Sys2Proof/Word.lean ====
section
/-! DEFINITION. The word types of the CAN-bootloader protocol engine (00_scope.md R9: unsigned
values, bit 0 the least significant). Identifiers, lengths, positions and timeouts are never
shifted or masked by a rule, so they are `Nat`; only what the spec treats as bits is a `BitVec`. -/

namespace Sys2Proof

/-- `BYTE8` (R80): an image byte, a payload byte or a decoded nibble (R24: 0..200, so 8 bits). -/
abbrev Byte := BitVec 8

/-- `STATE4` (R80, R82): the code of one sequencer operation. -/
abbrev StateCode := BitVec 4

/-- `CAUSE4` (R80, R90): bit 3 is the class. -/
abbrev CauseCode := BitVec 4

/-- The counter field of `FRAME32` (R84), of the composer (R140) and of `STATUS` (R32): 16 bits. The
register `CNT` itself has `CNT_W` bits (R7). -/
abbrev Count := BitVec 16

/-- `FRAME32` (R80, R84). -/
abbrev Frame := BitVec 32

end Sys2Proof
end

