-- ==== Sys2Proof/Config.lean ====
section
/-! DEFINITION. What an implementation fixes: the design-time parameters of 00_scope.md R7 and the
run-time configuration inputs of 10_state.md R33; and the responses (30_encoding.md R93), with the free
answers of a transport. The CBPE-1 values of the parameters stand in
Machine/Parameters.lean (`Params.cbpe1`); every rule of the model reads its parameters from a
`Params` value, as R7 asks ("a model should take every parameter as an argument"). -/

namespace Sys2Proof

/-- A timeout argument of a transport request (R7, R231): a number of time units, or `INFINITE`.
The block measures nothing; the value is only passed on. -/
inductive Timeout where
  | units (n : Nat)
  | infinite
  deriving DecidableEq, Repr

/-- The design-time parameters of R7, under the spec's names. -/
structure Params where
  /-- `ID_W`: identifier width in bits. -/
  idW : Nat
  /-- `HB_ID`: heartbeat identifier. -/
  hbId : Nat
  /-- `DATA_ID`: streaming data identifier. -/
  dataId : Nat
  /-- `ACK_ID`: completion identifier. -/
  ackId : Nat
  /-- `ACK_INDEX`: the payload byte checked. -/
  ackIndex : Nat
  /-- `ACK_VALUE`: the value it must have. -/
  ackValue : Byte
  /-- `T_START`: start-command send timeout. -/
  tStart : Timeout
  /-- `T_DATA`: data-frame send timeout. -/
  tData : Timeout
  /-- `T_ACK`: timeout of both completion receives. -/
  tAck : Timeout
  /-- `T_HB`: heartbeat receive timeout. -/
  tHb : Timeout
  /-- `START_DLC`: length of the start command. -/
  startDlc : Nat
  /-- `START_FILL`: its fill byte. -/
  startFill : Byte
  /-- `DATA_DLC`: length of a data message. -/
  dataDlc : Nat
  /-- `CNT_INIT`: first Record counter of an attempt. -/
  cntInit : Nat
  /-- `CNT_W`: width of the Record counter in bits. -/
  cntW : Nat
  /-- `SKIP_LIMIT`: bytes below it are skipped. -/
  skipLimit : Nat
  /-- `ALPHA_LIMIT`: bytes above it lose `ALPHA_BIAS`. -/
  alphaLimit : Nat
  /-- `ALPHA_BIAS`. -/
  alphaBias : Nat
  /-- `DIGIT_BIAS`. -/
  digitBias : Nat
  /-- `BITRATE`: OPEN (R7, I1); passed unchanged to `CONFIGURE`. -/
  bitrate : Nat
  /-- `TIME_UNIT`: OPEN (R7, I2); no rule reads it. -/
  timeUnit : Nat
  deriving DecidableEq, Repr

/-- The configuration inputs of R33, set by the host before reset is released. -/
structure CfgInputs where
  /-- `CFG_DEVICE_ID`: what the host drives on the `ID_W`-bit input; 0 means "not supplied". -/
  deviceId : Nat
  /-- `CFG_BYPASS`: do not send the start command. -/
  bypass : Bool
  /-- `CFG_CHECK`: false = Preserve, true = Reject. -/
  check : Bool
  /-- `CFG_RETRY_LIMIT`: 0 = unbounded resend. -/
  retryLimit : BitVec 32
  deriving DecidableEq, Repr

/-- The value of the OPEN parameter `BITRATE` (R7, D24): a free value, so that nothing rests on it. -/
opaque Config.bitrate : Nat

/-- The value of the OPEN parameter `TIME_UNIT` (R7, D37): a free value. -/
opaque Config.timeUnit : Nat

/-- The responses of R93. -/
inductive Machine.Response where
  | ok
  | fail
  | done
  /-- `MSG(id, dlc, data)` (R61). -/
  | msg (id dlc : Nat) (data : List Byte)
  /-- `BYTE(b)` (R54). -/
  | byte (b : Byte)
  /-- `END` (R54). -/
  | imgEnd
  deriving DecidableEq, Repr

/-- The answers of a transport whose draws follow no list (R55, I5): free values, one for each number;
`none` is a request that is never answered. -/
opaque Config.freeAnswer : Nat → Option Machine.Response

/-- The payload byte lanes 0 to 7 of one message (R50, R61: `0 ≤ dlc ≤ 8`). -/
abbrev Config.maxDlc : Nat := 8

end Sys2Proof
end

