-- ==== Sys2Proof/Syntax.lean ====
section
/-! DEFINITION. The operations of the two opcode maps (30_encoding.md R81, R82), one constructor for
each row of spec/opcode_table.json: the four byte classes of the hex-nibble decoder, with the
image byte they decode as operand, and the sixteen state codes of the sequencer. -/

namespace Sys2Proof

/-- The four byte classes of R81. -/
inductive ByteClass where
  | digit
  | skip
  | atSign
  | alpha
  deriving DecidableEq, Repr

/-- One operation of the block. -/
inductive Instr where
  /-- `NIB_DIGIT` (R122): byte 0x30..0x3F. -/
  | nibDigit (b : Byte)
  /-- `NIB_SKIP` (R121): byte 0x00..0x2F. -/
  | nibSkip (b : Byte)
  /-- `NIB_AT` (R123): the byte 0x40, so it has no free operand. -/
  | nibAt
  /-- `NIB_ALPHA` (R124): byte 0x41..0xFF. -/
  | nibAlpha (b : Byte)
  /-- `S_OPEN` (R160). -/
  | sOpen
  /-- `S_CONFIG` (R161). -/
  | sConfig
  /-- `S_GOLIVE` (R162). -/
  | sGolive
  /-- `S_START` (R163). -/
  | sStart
  /-- `S_WAIT_HB` (R164). -/
  | sWaitHb
  /-- `S_FLUSH` (R165). -/
  | sFlush
  /-- `S_REWIND` (R180). -/
  | sRewind
  /-- `S_FETCH` (R181 to R183). -/
  | sFetch
  /-- `S_SEND` (R184 to R186). -/
  | sSend
  /-- `S_ACK_WAIT` (R200). -/
  | sAckWait
  /-- `S_ACK_READ` (R201, R202). -/
  | sAckRead
  /-- `S_FAILED` (R203). -/
  | sFailed
  /-- `S_CLOSE` (R204). -/
  | sClose
  /-- `S_DONE` (R205). -/
  | sDone
  /-- `S_ABORTED` (R206). -/
  | sAborted
  /-- `RESERVED_STATE_0xF` (R83). -/
  | reservedState0xF
  deriving DecidableEq, Repr

end Sys2Proof
end

