-- ==== Sys2Proof/WellFormed.lean ====
section
/-! DEFINITION. Which operations and parameter sets are well formed. A byte-class operation is well
formed when its operand is a byte of its class (R81's bytes-taken column); every state code is. -/

namespace Sys2Proof

/-- Why an operation or a parameter set is refused. -/
inductive IllFormed where
  /-- `NIB_DIGIT` with a byte outside 0x30..0x3F. -/
  | digitRange
  /-- `NIB_SKIP` with a byte outside 0x00..0x2F. -/
  | skipRange
  /-- `NIB_ALPHA` with a byte outside 0x41..0xFF. -/
  | alphaRange
  /-- `ID_W` neither 11 nor 29 (I10). -/
  | idWidth
  /-- an identifier parameter that does not fit in `ID_W` bits. -/
  | idRange
  /-- a decoder bias that could make a nibble negative (R120). -/
  | biasRange
  /-- an acknowledgement index outside the payload byte lanes (R50). -/
  | ackIndexRange
  /-- a message length above eight bytes, or a data length other than the four of `FRAME32`. -/
  | dlcRange
  /-- a first counter that does not fit in `CNT_W` bits. -/
  | countRange
  deriving DecidableEq, Repr

/-- The check of one operation: `none` when it is well formed. -/
def Instr.check : Instr → Option IllFormed
  | .nibDigit b => if 0x30 ≤ b.toNat ∧ b.toNat ≤ 0x3F then none else some .digitRange
  | .nibSkip b => if b.toNat ≤ 0x2F then none else some .skipRange
  | .nibAt => none
  | .nibAlpha b => if 0x41 ≤ b.toNat then none else some .alphaRange
  | .sOpen => none
  | .sConfig => none
  | .sGolive => none
  | .sStart => none
  | .sWaitHb => none
  | .sFlush => none
  | .sRewind => none
  | .sFetch => none
  | .sSend => none
  | .sAckWait => none
  | .sAckRead => none
  | .sFailed => none
  | .sClose => none
  | .sDone => none
  | .sAborted => none
  | .reservedState0xF => none

/-- The operation passes its check. -/
abbrev Instr.WellFormed (i : Instr) : Prop := i.check = none

/-- The check of a parameter set: what the CBPE-1 values satisfy and another choice should. -/
def Params.check (p : Params) : Option IllFormed :=
  if p.idW ≠ 11 ∧ p.idW ≠ 29 then some .idWidth
  else if 2 ^ p.idW ≤ p.hbId ∨ 2 ^ p.idW ≤ p.dataId ∨ 2 ^ p.idW ≤ p.ackId then some .idRange
  else if p.skipLimit < p.digitBias ∨ p.alphaLimit + 1 < p.alphaBias then some .biasRange
  else if Config.maxDlc ≤ p.ackIndex then some .ackIndexRange
  else if Config.maxDlc < p.startDlc ∨ p.dataDlc ≠ 4 then some .dlcRange
  else if 2 ^ p.cntW ≤ p.cntInit then some .countRange
  else none

/-- The parameter set passes its check. -/
abbrev Params.WellFormed (p : Params) : Prop := p.check = none

end Sys2Proof
end

