-- ==== Sys2Proof/Decode.lean ====
section
/-! DEFINITION. The two decoders of 30_encoding.md (the byte-class decoder R81 and the state decoder
R82), total on every byte and every state code, and the encoder written from the same tables. -/

namespace Sys2Proof

/-- A word of one of the two opcode maps: an image byte (`BYTE8`) or a state code (`STATE4`). -/
inductive CodeWord where
  | byte8 (b : Byte)
  | state4 (c : StateCode)
  deriving DecidableEq, Repr

/-- Why a number is no word of either opcode map. -/
inductive DecodeError where
  /-- wider than the widest format of R80 that an opcode map reads (8 bits). -/
  | tooWide
  /-- a format of at most 4 bits was named and the value does not fit in it. -/
  | notAStateCode
  deriving DecidableEq, Repr

/-! The state codes of R82. -/

abbrev Code.sOpen : StateCode := 0x0#4
abbrev Code.sConfig : StateCode := 0x1#4
abbrev Code.sGolive : StateCode := 0x2#4
abbrev Code.sStart : StateCode := 0x3#4
abbrev Code.sWaitHb : StateCode := 0x4#4
abbrev Code.sFlush : StateCode := 0x5#4
abbrev Code.sRewind : StateCode := 0x6#4
abbrev Code.sFetch : StateCode := 0x7#4
abbrev Code.sSend : StateCode := 0x8#4
abbrev Code.sAckWait : StateCode := 0x9#4
abbrev Code.sAckRead : StateCode := 0xA#4
abbrev Code.sFailed : StateCode := 0xB#4
abbrev Code.sClose : StateCode := 0xC#4
abbrev Code.sDone : StateCode := 0xD#4
abbrev Code.sAborted : StateCode := 0xE#4
abbrev Code.reserved : StateCode := 0xF#4

/-- The byte of class `NIB_AT` (R123). -/
abbrev atByte : Byte := 0x40#8

/-- The byte-class decoder of R81: the first row of the priority-ordered table whose test
`(b & mask) = match` holds. -/
def byteClass (b : Byte) : ByteClass :=
  if b &&& 0xF0 = 0x30 then .digit
  else if b &&& 0xC0 = 0x00 then .skip
  else if b &&& 0xFF = 0x40 then .atSign
  else .alpha

/-- The operation that a byte of a class selects; `NIB_AT` has no operand of its own. -/
def byteInstr (c : ByteClass) (b : Byte) : Instr :=
  match c with
  | .digit => .nibDigit b
  | .skip => .nibSkip b
  | .atSign => .nibAt
  | .alpha => .nibAlpha b

/-- The byte-class decoder as an operation (R81): total, no byte is illegal (R94). -/
def decodeByte (b : Byte) : Instr := byteInstr (byteClass b) b

/-- The state decoder of R82; the last row is the reserved code 0xF (R83). -/
def decodeState (c : StateCode) : Instr :=
  match c.toNat with
  | 0x0 => .sOpen
  | 0x1 => .sConfig
  | 0x2 => .sGolive
  | 0x3 => .sStart
  | 0x4 => .sWaitHb
  | 0x5 => .sFlush
  | 0x6 => .sRewind
  | 0x7 => .sFetch
  | 0x8 => .sSend
  | 0x9 => .sAckWait
  | 0xA => .sAckRead
  | 0xB => .sFailed
  | 0xC => .sClose
  | 0xD => .sDone
  | 0xE => .sAborted
  | _ => .reservedState0xF

/-- The block's decoder: each word of each opcode map selects exactly one operation. -/
def decode : CodeWord → Instr
  | .byte8 b => decodeByte b
  | .state4 c => decodeState c

/-- The word of an operation (R81, R82). -/
def encode : Instr → CodeWord
  | .nibDigit b => .byte8 b
  | .nibSkip b => .byte8 b
  | .nibAt => .byte8 atByte
  | .nibAlpha b => .byte8 b
  | .sOpen => .state4 Code.sOpen
  | .sConfig => .state4 Code.sConfig
  | .sGolive => .state4 Code.sGolive
  | .sStart => .state4 Code.sStart
  | .sWaitHb => .state4 Code.sWaitHb
  | .sFlush => .state4 Code.sFlush
  | .sRewind => .state4 Code.sRewind
  | .sFetch => .state4 Code.sFetch
  | .sSend => .state4 Code.sSend
  | .sAckWait => .state4 Code.sAckWait
  | .sAckRead => .state4 Code.sAckRead
  | .sFailed => .state4 Code.sFailed
  | .sClose => .state4 Code.sClose
  | .sDone => .state4 Code.sDone
  | .sAborted => .state4 Code.sAborted
  | .reservedState0xF => .state4 Code.reserved

/-- Which opcode map a word of spec/opcode_table.json belongs to, from its width and value. A 4-bit
state code padded to a whole byte has the same width as an image byte, so the values 0..15 are read
as state codes and 16..255 as image bytes (DESIGN CHOICE, notes/assumptions/14.md). The machine
itself never uses this: it knows which decoder it is asking. -/
def tableWord (nbits w : Nat) : Except DecodeError CodeWord :=
  if 8 < nbits ∨ 256 ≤ w then .error .tooWide
  else if w < 16 then .ok (.state4 (BitVec.ofNat 4 w))
  else if nbits ≤ 4 then .error .notAStateCode
  else .ok (.byte8 (BitVec.ofNat 8 w))

/-- The operation the decoder reads from a table word of `nbits` bits. -/
def decodeTableWord (nbits w : Nat) : Option Instr :=
  match tableWord nbits w with
  | .ok cw => some (decode cw)
  | .error _ => none

end Sys2Proof
end

