-- ==== Sys2Proof/Machine/Parameters.lean ====
section
/-! DEFINITION. The CBPE-1 values of the parameters (00_scope.md R7) and the default configuration
inputs (10_state.md R33). -/

namespace Sys2Proof

/-- The parameter table of R7. `BITRATE` and `TIME_UNIT` are OPEN and stay free values. -/
def Params.cbpe1 : Params where
  idW := 11
  hbId := 2
  dataId := 1
  ackId := 2
  ackIndex := 2
  ackValue := 0x80
  tStart := .units 10000
  tData := .units 10000
  tAck := .units 10000
  tHb := .infinite
  startDlc := 8
  startFill := 0xFF
  dataDlc := 4
  cntInit := 1
  cntW := 16
  skipLimit := 48
  alphaLimit := 64
  alphaBias := 55
  digitBias := 48
  bitrate := Config.bitrate
  timeUnit := Config.timeUnit

/-- The configuration inputs before the host has set them: `CFG_CHECK` and `CFG_RETRY_LIMIT` at the
defaults of R33; device id and bypass are DESIGN CHOICE 0 (notes/assumptions/7.md). -/
def CfgInputs.default : CfgInputs where
  deviceId := 0
  bypass := false
  check := false
  retryLimit := 0

end Sys2Proof
end

