-- ==== Sys2Proof/Machine/Codes.lean ====
section
/-! DEFINITION. The cause codes of 30_encoding.md R90 and the reports of R96. -/

namespace Sys2Proof.Machine

/-- The fatal causes of R90 (class bit 0). -/
inductive FatalCause where
  | eOpen
  | eConfig
  | eGolive
  | eNodev
  | eStart
  | eMalformed
  deriving DecidableEq, Repr

/-- The soft causes of R90 (class bit 1). -/
inductive SoftCause where
  | fAckMatch
  | fAckRecv
  | fAckValue
  | fSendLimit
  deriving DecidableEq, Repr

/-- `NONE` (R90). -/
abbrev noCause : CauseCode := 0x0#4

/-- The fatal codes of R90. -/
def FatalCause.code : FatalCause → CauseCode
  | .eOpen => 0x1#4
  | .eConfig => 0x2#4
  | .eGolive => 0x3#4
  | .eNodev => 0x4#4
  | .eStart => 0x5#4
  | .eMalformed => 0x6#4

/-- The soft codes of R90. -/
def SoftCause.code : SoftCause → CauseCode
  | .fAckMatch => 0x8#4
  | .fAckRecv => 0x9#4
  | .fAckValue => 0xA#4
  | .fSendLimit => 0xB#4

/-- A code `E_*` of R90. -/
abbrev isFatalCode (c : CauseCode) : Prop := 0x1 ≤ c.toNat ∧ c.toNat ≤ 0x6

/-- A code `F_*` of R90. -/
abbrev isSoftCode (c : CauseCode) : Prop := 0x8 ≤ c.toNat ∧ c.toNat ≤ 0xB

/-- The report kinds of R96; the fourth value of the field, 3, is never emitted. -/
inductive ReportKind where
  | success
  | fail
  | fatal
  deriving DecidableEq, Repr

/-- The `kind` field of R96. -/
def ReportKind.code : ReportKind → BitVec 2
  | .success => 0#2
  | .fail => 1#2
  | .fatal => 2#2

/-- One report event, `Report(kind, cause, cerr)` (R96). -/
structure Report where
  kind : ReportKind
  cause : CauseCode
  cerr : Bool
  deriving DecidableEq, Repr

/-- The report byte of R96: `kind` in [1:0], `cerr` in [2], bit 3 zero, `cause` in [7:4]. -/
def Report.encode (r : Report) : Byte :=
  r.cause ++ 0#1 ++ BitVec.ofBool r.cerr ++ r.kind.code

end Sys2Proof.Machine
end

