-- ==== Sys2Proof/Machine/State.lean ====
section
/-! DEFINITION. The machine's state as plain data: the registers of 10_state.md R20, the report log,
and the environment the step reads (parameters, configuration inputs, the image source, the
transport's answers, the host's moves), with the record of requests and responses (R207). -/

namespace Sys2Proof.Machine

/-- The requests the block issues (R92). -/
inductive Request where
  /-- `OPEN` (R56). -/
  | openCh
  /-- `CONFIGURE(BITRATE)` (R57). -/
  | configure (rate : Nat)
  /-- `GO_LIVE` (R58). -/
  | goLive
  /-- `SEND(id, dlc, data, timeout)` (R59). -/
  | send (id dlc : Nat) (data : List Byte) (timeout : Timeout)
  /-- `RECV_MATCH(id, timeout)` (R60). -/
  | recvMatch (id : Nat) (timeout : Timeout)
  /-- `RECV(timeout)` (R61). -/
  | recv (timeout : Timeout)
  /-- `FLUSH` (R62). -/
  | flush
  /-- `CLOSE` (R63). -/
  | closeCh
  /-- `ImgRewind()` (R53). -/
  | imgRewind
  /-- `ImgNext()` (R54). -/
  | imgNext
  deriving DecidableEq, Repr

/-- One completed request with its response: one entry of the request trace (R207). -/
structure Exchange where
  req : Request
  rsp : Response
  deriving DecidableEq, Repr

/-- What the transport answers when the listed answers are used up. The number of answers is open
(R55, R266); each way of going on is a case, the choice is the environment's (log entry 1). -/
inductive Later where
  /-- no answer ever again: a request stays unanswered (R266). -/
  | silent
  /-- these answers over and over, without end: how a FAIL for ever is written (R207, R266). -/
  | cycle (first : Response) (more : List Response)
  /-- the free draws from number `n` on, in any order whatever (`Config.freeAnswer`). -/
  | free (n : Nat)
  deriving DecidableEq, Repr

/-- What the host does in one step (R257): nothing, or holding reset asserted, in which case it also
drives the configuration inputs and the image of the coming run (R253, R256). The move carries as well
what the transport answers from then on, which is any value (R251, I7; log entry 10). -/
inductive HostMove where
  | idle
  | reset (cfg : CfgInputs) (image : List Byte) (script : List Response) (later : Later)
  deriving DecidableEq, Repr

/-- How a step can stop with a fault. -/
inductive Fault where
  /-- `ILLEGAL_STATE` (R83): raised by a step with `STATE` = 0xF. Safe: the spec gives that code no
  behaviour and no run from reset reaches it. -/
  | illegalState
  deriving DecidableEq, Repr

/-- How a step can be refused. -/
inductive Refusal where
  /-- raised by `exec` for an operation with no meaning yet. Safe; no arm raises it. -/
  | notModelled (mnemonic : String)
  /-- raised by a transport request whose answer is outside its response set (R93, I5, V6.7:
  "refused, no step"). Safe: such an answer is no behaviour of a legal transport. -/
  | illegalResponse
  deriving DecidableEq, Repr

/-- The state of the block and of what it talks to. -/
structure State where
  /-- `STATE` (R21). -/
  state : StateCode
  /-- `CNT` (R23), a register of `CNT_W` bits (R7): a number below 2^`CNT_W` (`State.Inv`). -/
  cnt : Nat
  /-- `NIB0` (R24). -/
  nib0 : Byte
  /-- `NIB1` (R24). -/
  nib1 : Byte
  /-- `NIB2` (R24). -/
  nib2 : Byte
  /-- `NIBCNT` (R25). -/
  nibCnt : BitVec 2
  /-- `FRAME` (R26). -/
  frame : Frame
  /-- `RETRY` (R27). -/
  retry : BitVec 32
  /-- `CAUSE` (R28). -/
  cause : CauseCode
  /-- `LINK` (R29). -/
  link : Bool
  /-- `CLOSE_ERR` (R30). -/
  closeErr : Bool
  /-- The report log (R96), oldest first. -/
  reports : List Report
  /-- The design-time parameters (R7). -/
  params : Params
  /-- The configuration inputs (R33), constant between resets (R256). -/
  cfg : CfgInputs
  /-- `IMAGE`, held by the image source (R52). -/
  image : List Byte
  /-- `IMGPOS`, held by the image source (R52). -/
  imgPos : Nat
  /-- The transport's coming answers, one for each transport request (R55, R97's response script): the
  listed ones, after which it goes on as `later` says (log entry 1). -/
  script : List Response
  /-- The transport's answers after the listed ones: the model's own field, so that a run without end
  (R207, R266) and every sequence of draws (I5) has a state (log entry 1). -/
  later : Later
  /-- The host's coming moves, one for each step; the empty list is a host that stays idle. -/
  host : List HostMove
  /-- The requests of the run with their responses, oldest first (R207). -/
  trace : List Exchange
  deriving DecidableEq, Repr

/-- The machine right after reset (R34, R250): every register at its reset value and the report log
empty. The parameters have their CBPE-1 values; the host has set nothing yet (configuration inputs
at their defaults, no image, no transport answers, no moves: notes/assumptions/7.md); `IMGPOS` is
unspecified at reset (R52) and is 0 by DESIGN CHOICE (notes/assumptions/6.md). -/
def State.reset : State where
  state := Code.sOpen
  cnt := 0
  nib0 := 0
  nib1 := 0
  nib2 := 0
  nibCnt := 0
  frame := 0
  retry := 0
  cause := noCause
  link := false
  closeErr := false
  reports := []
  params := Params.cbpe1
  cfg := CfgInputs.default
  image := []
  imgPos := 0
  script := []
  later := .silent
  host := []
  trace := []

end Sys2Proof.Machine
end

