-- ==== Sys2Proof/Machine/Operands.lean ====
section
/-! DEFINITION. The operand computations: the hex-nibble decoder (40_hex_decoder.md), the frame
composer (41_frame_composer.md), the payload forms (30_encoding.md R84 to R87) and the counter and
retry arithmetic. All of them are pure and total. -/

namespace Sys2Proof.Machine

/-- What the hex-nibble decoder gives for one byte (R120). -/
inductive Decoded where
  | skip
  | nib (v : Byte)
  deriving DecidableEq, Repr

/-- `b - ALPHA_BIAS`, the nibble of a byte above `ALPHA_LIMIT` (R120). -/
def alphaNibble (p : Params) (b : Byte) : Byte := BitVec.ofNat 8 (b.toNat - p.alphaBias)

/-- `b - DIGIT_BIAS`, the nibble of a byte from `SKIP_LIMIT` to `ALPHA_LIMIT` (R120). -/
def digitNibble (p : Params) (b : Byte) : Byte := BitVec.ofNat 8 (b.toNat - p.digitBias)

/-- The decoder function `dec` of R120. -/
def dec (p : Params) (b : Byte) : Decoded :=
  if b.toNat < p.skipLimit then .skip
  else if p.alphaLimit < b.toNat then .nib (alphaNibble p b)
  else .nib (digitNibble p b)

/-- The byte class by the thresholds of R120, with R81's split of the middle range: for the CBPE-1
thresholds it is the match/mask table `byteClass` (`classOf_cbpe1`). -/
def classOf (p : Params) (b : Byte) : ByteClass :=
  if b.toNat < p.skipLimit then .skip
  else if p.alphaLimit < b.toNat then .alpha
  else if b = atByte then .atSign
  else .digit

/-- `valid(v)` of R125. -/
def valid (v : Byte) : Bool := decide (v.toNat ≤ 15)

/-- `PACK(nh, nl) = trunc_8((nh << 4) + nl)` (R141). -/
def pack (nh nl : Byte) : Byte := BitVec.ofNat 8 (nh.toNat * 2 ^ 4 + nl.toNat)

/-- `COMPOSE(cnt, d1, d2)` (R140): counter high byte, counter low byte, `d1`, `d2`. -/
def compose (cnt : Count) (d1 d2 : Byte) : Frame :=
  cnt.extractLsb' 8 8 ++ cnt.extractLsb' 0 8 ++ d1 ++ d2

/-- `GROUP(cnt, n0, n1, n2, n3)` (R142). -/
def group (cnt : Count) (n0 n1 n2 n3 : Byte) : Frame := compose cnt (pack n0 n1) (pack n2 n3)

/-- The payload bytes of a frame in wire order (R84, R65). -/
def frameBytes (f : Frame) : List Byte :=
  [f.extractLsb' 24 8, f.extractLsb' 16 8, f.extractLsb' 8 8, f.extractLsb' 0 8]

/-- `trunc_N(CNT + 1)` (R185) with N = `CNT_W`, 16 in CBPE-1 (R7). -/
def nextCount (p : Params) (c : Nat) : Nat := (c + 1) % 2 ^ p.cntW

/-- `CNT[15:0]`, the part of the counter that `FRAME32` (R84) and `STATUS` (R32) have room for: all of
it in CBPE-1, and zero-extended where `CNT_W` is smaller (log entry 4). -/
def countField (c : Nat) : Count := BitVec.ofNat 16 c

/-- `min(RETRY + 1, 2^32 - 1)` (R186). -/
def nextRetry (r : BitVec 32) : BitVec 32 := BitVec.ofNat 32 (min (r.toNat + 1) (2 ^ 32 - 1))

/-- The retry limit is set and reached (R186's test on `r'`). -/
def limitReached (limit r : BitVec 32) : Bool := decide (limit ≠ 0 ∧ limit.toNat ≤ r.toNat)

/-- The acknowledgement test of R89 and R202: `dlc > ACK_INDEX and data[ACK_INDEX] = ACK_VALUE`. -/
def ackAccepted (p : Params) (dlc : Nat) (data : List Byte) : Bool :=
  decide (p.ackIndex < dlc ∧ data[p.ackIndex]? = some p.ackValue)

/-- `CFG_DEVICE_ID` as the block reads it on its `ID_W`-bit input (R33; notes/assumptions/8.md). -/
def State.deviceId (s : State) : Nat := s.cfg.deviceId % 2 ^ s.params.idW

/-- The start command (R86): all `START_FILL`, to identifier `CFG_DEVICE_ID`. -/
def State.startCommand (s : State) : Request :=
  .send s.deviceId s.params.startDlc (List.replicate s.params.startDlc s.params.startFill)
    s.params.tStart

/-- The data message of the frame register (R87, R184). -/
def State.dataMessage (s : State) : Request :=
  .send s.params.dataId s.params.dataDlc (frameBytes s.frame) s.params.tData

end Sys2Proof.Machine
end

