-- ==== Sys2Proof/Machine/Flags.lean ====
section
/-! DEFINITION. What the host reads of the registers: the `STATUS` word (10_state.md R32) with its
`TERMINAL` and `SUCCESS` bits, and the session view (R22). Pure functions of the state: a host
read has no side effect. -/

namespace Sys2Proof.Machine

/-- `STATUS.TERMINAL` (R32): `STATE ∈ {S_DONE, S_ABORTED}`; the run has ended (R207). -/
def State.terminal (s : State) : Bool := s.state == Code.sDone || s.state == Code.sAborted

/-- `STATUS.SUCCESS` (R32): `STATE = S_DONE`. -/
def State.success (s : State) : Bool := s.state == Code.sDone

/-- The `STATUS` word of R32, from bit 31 down: `CNT`, two reserved zeros, `NIBCNT`, `SUCCESS`,
`TERMINAL`, `CLOSE_ERR`, `LINK`, `CAUSE`, `STATE`. -/
def State.status (s : State) : BitVec 32 :=
  countField s.cnt ++ 0#2 ++ s.nibCnt ++ BitVec.ofBool s.success ++ BitVec.ofBool s.terminal
    ++ BitVec.ofBool s.closeErr ++ BitVec.ofBool s.link ++ s.cause ++ s.state

/-- The report log as the host reads it: one byte an event (R96). -/
def State.reportBytes (s : State) : List Byte := s.reports.map Report.encode

/-- The names of the session view (R22); `closing` marks the two rows of `S_CLOSE`. -/
inductive Session where
  | init
  | startCommand
  | waitingForHeartbeat
  | streaming
  | awaitingCompletion
  | failed
  | done (closing : Bool)
  | aborted (closing : Bool)
  deriving DecidableEq, Repr

/-- `SESSION(STATE, CAUSE)` of R22. The table has no row for `S_CLOSE` with a cause that is neither
`NONE` nor fatal, nor for the reserved code: there the view is `none`. -/
def sessionView (st : StateCode) (c : CauseCode) : Option Session :=
  match decodeState st with
  | .sOpen | .sConfig | .sGolive => some .init
  | .sStart => some .startCommand
  | .sWaitHb | .sFlush => some .waitingForHeartbeat
  | .sRewind | .sFetch | .sSend => some .streaming
  | .sAckWait | .sAckRead => some .awaitingCompletion
  | .sFailed => some .failed
  | .sClose =>
    if c = noCause then some (.done true)
    else if isFatalCode c then some (.aborted true)
    else none
  | .sDone => some (.done false)
  | .sAborted => some (.aborted false)
  | .reservedState0xF => none
  | .nibDigit _ | .nibSkip _ | .nibAt | .nibAlpha _ => none

/-- The session view of a state (R22). -/
def State.session (s : State) : Option Session := sessionView s.state s.cause

end Sys2Proof.Machine
end

