-- ==== Sys2Proof/Machine/Ops.lean ====
section
/-! DEFINITION. The shared operations: the external requests (00_scope.md R11), reports, the two
failure paths (60_exceptions.md R224, R226) with the return from the soft one (R228), and reset
(70_reset_and_hazards.md R250, R251). -/

namespace Sys2Proof.Machine

/-- The response set of each request (R53, R54, R56 to R63). A `MSG` names an identifier of `ID_W`
bits, a length of at most 8 and that many data bytes (R50, R61). -/
def Request.allows (p : Params) : Request → Response → Bool
  | .openCh, r | .configure _, r | .goLive, r | .send _ _ _ _, r | .recvMatch _ _, r
  | .closeCh, r => r == .ok || r == .fail
  | .recv _, .msg id dlc data =>
    decide (id < 2 ^ p.idW ∧ dlc ≤ Config.maxDlc ∧ data.length = dlc)
  | .recv _, r => r == .fail
  | .flush, r | .imgRewind, r => r == .done
  | .imgNext, .byte _ => true
  | .imgNext, r => r == .imgEnd

/-- One transport request has been answered: the answer leaves the script and the exchange is
recorded (R55, R70). -/
def State.answered (s : State) (req : Request) (r : Response) (rest : List Response) : State :=
  { s with script := rest, trace := s.trace ++ [⟨req, r⟩] }

/-- The coming answers with at least the next one listed, where there is a next one: the listed
answers, or when they are used up the first of the later ones (log entry 1). -/
def State.front (s : State) : List Response × Later :=
  match s.script, s.later with
  | [], .cycle r more => (r :: more, .cycle r more)
  | [], .free n =>
    match Config.freeAnswer n with
    | some r => ([r], .free (n + 1))
    | none => ([], .free n)
  | script, later => (script, later)

/-- The same state, with the next answer listed where there is one (`State.front`). -/
def State.supplied (s : State) : State := { s with script := s.front.1, later := s.front.2 }

/-- `Tx(op, args)` (R11, R55): the response is the next answer of the transport. With no answer left
the request stays unanswered and the step changes nothing, the hang of R266. An answer outside the
request's response set is refused (R93). `k` is what the operation does with the response. -/
def State.tx (s : State) (req : Request) (k : Response → State → State) :
    Host.Outcome State Fault Refusal :=
  match s.supplied.script with
  | [] => .next s
  | r :: rest =>
    if req.allows s.params r then .next (k r (s.supplied.answered req r rest))
    else .refused .illegalResponse

/-- What `ImgNext` would answer (R54): the byte at `IMGPOS`, or nothing at the end of the image. -/
def State.imgPeek (s : State) : Option Byte := s.image[s.imgPos]?

/-- `ImgNext` answered `BYTE(b)`: the position moves past the byte (R54). -/
def State.imgByte (s : State) (b : Byte) : State :=
  { s with imgPos := s.imgPos + 1, trace := s.trace ++ [⟨.imgNext, .byte b⟩] }

/-- `ImgNext` answered `END`: the position stays (R54). -/
def State.imgEnded (s : State) : State :=
  { s with trace := s.trace ++ [⟨.imgNext, .imgEnd⟩] }

/-- `ImgRewind()` (R53): the position becomes 0 and the response is `DONE`. -/
def State.imgRewound (s : State) : State :=
  { s with imgPos := 0, trace := s.trace ++ [⟨.imgRewind, .done⟩] }

/-- `emit Report(kind, cause, cerr)` (R11, R96). -/
def State.emit (s : State) (kind : ReportKind) (cause : CauseCode) (cerr : Bool) : State :=
  { s with reports := s.reports ++ [⟨kind, cause, cerr⟩] }

/-- The fatal path, `raise Fatal(c)` (R224): with the handle held it goes to `S_CLOSE`, without it
it reports and halts in `S_ABORTED`. -/
def State.raiseFatal (s : State) (c : FatalCause) : State :=
  if s.link then { s with cause := c.code, state := Code.sClose }
  else { (s.emit .fatal c.code false) with cause := c.code, state := Code.sAborted }

/-- The soft path, `raise Soft(c)` (R226). -/
def State.raiseSoft (s : State) (c : SoftCause) : State :=
  { s with cause := c.code, state := Code.sFailed }

/-- The soft path's return (R228, R203): back to the heartbeat wait, restoring nothing. -/
def State.resumeAttempts (s : State) : State := { s with state := Code.sWaitHb }

/-- Reset asserted by the host (R34, R250, R251): every register takes its reset value and the report
log is emptied. `IMGPOS` is not reset by the block; the configuration inputs and the image are those
the host drives for the coming run (R253). The transport is not reset by the block either, and nothing
is assumed of it (I7): what it answers from then on, to `OPEN` first, is any value, whatever it had
left unanswered. That the move carries these answers is DESIGN CHOICE (notes/assumptions/10.md). A new
run begins, so its request record begins too (notes/assumptions/11.md). -/
def State.hostReset (s : State) (cfg : CfgInputs) (image : List Byte) (script : List Response)
    (later : Later) : State :=
  { s with
    state := Code.sOpen, cnt := 0, nib0 := 0, nib1 := 0, nib2 := 0, nibCnt := 0, frame := 0,
    retry := 0, cause := noCause, link := false, closeErr := false, reports := [],
    cfg := cfg, image := image, script := script, later := later, trace := [] }

/-- The request column of R82: what the operation selected by `STATE` asks for, `none` where it asks
for nothing. -/
def State.request (s : State) : Option Request :=
  match decodeState s.state with
  | .sOpen => some .openCh
  | .sConfig => some (.configure s.params.bitrate)
  | .sGolive => some .goLive
  | .sStart => if s.cfg.bypass ∨ s.deviceId = 0 then none else some s.startCommand
  | .sWaitHb => some (.recvMatch s.params.hbId s.params.tHb)
  | .sFlush => some .flush
  | .sRewind => some .imgRewind
  | .sFetch => some .imgNext
  | .sSend => some s.dataMessage
  | .sAckWait => some (.recvMatch s.params.ackId s.params.tAck)
  | .sAckRead => some (.recv s.params.tAck)
  | .sClose => some .closeCh
  | .sFailed | .sDone | .sAborted | .reservedState0xF => none
  | .nibDigit _ | .nibSkip _ | .nibAt | .nibAlpha _ => none

/-- The request goes to the transport, not to the image source (R92's agent column). -/
def Request.toTransport : Request → Bool
  | .openCh | .configure _ | .goLive | .send _ _ _ _ | .recvMatch _ _ | .recv _ | .flush
  | .closeCh => true
  | .imgRewind | .imgNext => false

/-- A program of R97 loaded from outside: the reset state with the host's configuration and image
and the transport's response script, after which the transport goes on as `later` says. -/
def State.load (cfg : CfgInputs) (image : List Byte) (script : List Response)
    (later : Later := .silent) : State :=
  { State.reset with cfg := cfg, image := image, script := script, later := later }

end Sys2Proof.Machine
end

