-- ==== Sys2Proof/Machine/Completion.lean ====
section
/-! DEFINITION. Completion acknowledgement, failure, close and end of run (44_completion.md R200 to
R206) and the reserved state code (30_encoding.md R83). -/

namespace Sys2Proof.Machine

/-- `S_ACK_WAIT` (R200). -/
def execSAckWait (s : State) : Host.Outcome State Fault Refusal :=
  s.tx (.recvMatch s.params.ackId s.params.tAck) fun r s => match r with
    | .ok => { s with state := Code.sAckRead }
    | _ => s.raiseSoft .fAckMatch

/-- `S_ACK_READ` (R201, R202): the identifier of the message is not compared. -/
def execSAckRead (s : State) : Host.Outcome State Fault Refusal :=
  s.tx (.recv s.params.tAck) fun r s => match r with
    | .msg _ dlc data =>
      if ackAccepted s.params dlc data then { s with cause := noCause, state := Code.sClose }
      else s.raiseSoft .fAckValue
    | _ => s.raiseSoft .fAckRecv

/-- `S_FAILED` (R203): reports the soft cause, keeps it, and returns to the heartbeat wait. -/
def execSFailed (s : State) : Host.Outcome State Fault Refusal :=
  .next (s.emit .fail s.cause false).resumeAttempts

/-- `S_CLOSE` (R204): the handle is released whatever the answer; `CAUSE` chooses the end. -/
def execSClose (s : State) : Host.Outcome State Fault Refusal :=
  s.tx .closeCh fun r s =>
    let e : Bool := r == .fail
    let s' := { s with link := false, closeErr := e }
    if s.cause = noCause then { s'.emit .success noCause e with state := Code.sDone }
    else { s'.emit .fatal s.cause e with state := Code.sAborted }

/-- `S_DONE` (R205, R252): halted; holding issues nothing and changes nothing. -/
def execSDone (s : State) : Host.Outcome State Fault Refusal := .next s

/-- `S_ABORTED` (R206, R252): halted; holding issues nothing and changes nothing. -/
def execSAborted (s : State) : Host.Outcome State Fault Refusal := .next s

/-- `STATE` = 0xF (R83): the model fault `ILLEGAL_STATE`, no next state. -/
def execReservedState0xF (_s : State) : Host.Outcome State Fault Refusal := .fault .illegalState

end Sys2Proof.Machine
end

