-- ==== Sys2Proof/Machine/Handshake.lean ====
section
/-! DEFINITION. Initialisation, start command and heartbeat handshake (42_handshake.md R160 to R165).
In each `match`, the last arm is the FAIL response: `State.tx` has refused every other answer. -/

namespace Sys2Proof.Machine

/-- `S_OPEN` (R160). -/
def execSOpen (s : State) : Host.Outcome State Fault Refusal :=
  s.tx .openCh fun r s => match r with
    | .ok => { s with link := true, state := Code.sConfig }
    | _ => s.raiseFatal .eOpen

/-- `S_CONFIG` (R161). -/
def execSConfig (s : State) : Host.Outcome State Fault Refusal :=
  s.tx (.configure s.params.bitrate) fun r s => match r with
    | .ok => { s with state := Code.sGolive }
    | _ => s.raiseFatal .eConfig

/-- `S_GOLIVE` (R162). -/
def execSGolive (s : State) : Host.Outcome State Fault Refusal :=
  s.tx .goLive fun r s => match r with
    | .ok => { s with state := Code.sStart }
    | _ => s.raiseFatal .eGolive

/-- `S_START` (R163): bypass is tested before the device id (R223). -/
def execSStart (s : State) : Host.Outcome State Fault Refusal :=
  if s.cfg.bypass then .next { s with state := Code.sWaitHb }
  else if s.deviceId = 0 then .next (s.raiseFatal .eNodev)
  else s.tx s.startCommand fun r s => match r with
    | .ok => { s with state := Code.sWaitHb }
    | _ => s.raiseFatal .eStart

/-- `S_WAIT_HB` (R164): a FAIL reissues the same request in the next step (R227). -/
def execSWaitHb (s : State) : Host.Outcome State Fault Refusal :=
  s.tx (.recvMatch s.params.hbId s.params.tHb) fun r s => match r with
    | .ok => { s with state := Code.sFlush }
    | _ => { s with state := Code.sWaitHb }

/-- `S_FLUSH` (R165): DONE is the only response. -/
def execSFlush (s : State) : Host.Outcome State Fault Refusal :=
  s.tx .flush fun _ s => { s with state := Code.sRewind }

end Sys2Proof.Machine
end

