-- ==== Sys2Proof/Machine/HexDecoder.lean ====
section
/-! DEFINITION. The four byte classes of the hex-nibble decoder (40_hex_decoder.md R121 to R124) as
operations: each is the `S_FETCH` step whose `ImgNext` answered `BYTE(b)` with a byte of the class
(notes/assumptions/12.md). -/

namespace Sys2Proof.Machine

/-- The nibble arm of `S_FETCH` (R182), after the byte has been read: the Reject-mode check, then one
nibble slot, or the frame of a complete group. -/
def State.collect (s : State) (v : Byte) : State :=
  if s.cfg.check && !valid v then s.raiseFatal .eMalformed
  else match s.nibCnt.toNat with
    | 0 => { s with nib0 := v, nibCnt := 1, state := Code.sFetch }
    | 1 => { s with nib1 := v, nibCnt := 2, state := Code.sFetch }
    | 2 => { s with nib2 := v, nibCnt := 3, state := Code.sFetch }
    | _ => { s with frame := group (countField s.cnt) s.nib0 s.nib1 s.nib2 v,
                    nibCnt := 0, retry := 0, state := Code.sSend }

/-- `NIB_DIGIT` (R122): the nibble `b - DIGIT_BIAS`. -/
def execNibDigit (b : Byte) (s : State) : Host.Outcome State Fault Refusal :=
  .next ((s.imgByte b).collect (digitNibble s.params b))

/-- `NIB_SKIP` (R121, R181): the position advances and no register changes but `STATE`, which the
skip arm of R181 writes with `S_FETCH`, its own code. -/
def execNibSkip (b : Byte) (s : State) : Host.Outcome State Fault Refusal :=
  .next { s.imgByte b with state := Code.sFetch }

/-- `NIB_AT` (R123): the byte '@' takes the `b - DIGIT_BIAS` arm. -/
def execNibAt (s : State) : Host.Outcome State Fault Refusal :=
  .next ((s.imgByte atByte).collect (digitNibble s.params atByte))

/-- `NIB_ALPHA` (R124): the nibble `b - ALPHA_BIAS`. -/
def execNibAlpha (b : Byte) (s : State) : Host.Outcome State Fault Refusal :=
  .next ((s.imgByte b).collect (alphaNibble s.params b))

end Sys2Proof.Machine
end

