-- ==== Sys2Proof/Machine/Streaming.lean ====
section
/-! DEFINITION. The streaming session (43_streaming.md R180 to R186). -/

namespace Sys2Proof.Machine

/-- `S_REWIND` (R180). -/
def execSRewind (s : State) : Host.Outcome State Fault Refusal :=
  .next { s.imgRewound with
    cnt := s.params.cntInit, nibCnt := 0, retry := 0, state := Code.sFetch }

/-- `S_FETCH` (R181, R183): END discards the partial group; a byte is handled by its class. -/
def execSFetch (s : State) : Host.Outcome State Fault Refusal :=
  match s.imgPeek with
  | none => .next { s.imgEnded with nibCnt := 0, state := Code.sAckWait }
  | some b =>
    match classOf s.params b with
    | .digit => execNibDigit b s
    | .skip => execNibSkip b s
    | .atSign => execNibAt s
    | .alpha => execNibAlpha b s

/-- `S_SEND` (R184 to R186): an accepted frame advances the counter; a failed one is resent, or ends
the attempt when the retry limit is set and reached. -/
def execSSend (s : State) : Host.Outcome State Fault Refusal :=
  s.tx s.dataMessage fun r s => match r with
    | .ok => { s with cnt := nextCount s.params s.cnt, retry := 0, state := Code.sFetch }
    | _ =>
      let s' := { s with retry := nextRetry s.retry }
      if limitReached s.cfg.retryLimit s'.retry then s'.raiseSoft .fSendLimit
      else { s' with state := Code.sSend }

end Sys2Proof.Machine
end

