-- ==== Sys2Proof/Machine/Dispatch.lean ====
section
/-! DEFINITION. The meaning of every operation, one arm a constructor of `Instr`. -/

namespace Sys2Proof.Machine

def exec (i : Instr) (s : State) : Host.Outcome State Fault Refusal :=
  match i with
  -- the byte classes (40_hex_decoder.md)
  | .nibDigit b => Sys2Proof.Machine.execNibDigit b s
  | .nibSkip b => Sys2Proof.Machine.execNibSkip b s
  | .nibAt => Sys2Proof.Machine.execNibAt s
  | .nibAlpha b => Sys2Proof.Machine.execNibAlpha b s
  -- the handshake (42_handshake.md)
  | .sOpen => Sys2Proof.Machine.execSOpen s
  | .sConfig => Sys2Proof.Machine.execSConfig s
  | .sGolive => Sys2Proof.Machine.execSGolive s
  | .sStart => Sys2Proof.Machine.execSStart s
  | .sWaitHb => Sys2Proof.Machine.execSWaitHb s
  | .sFlush => Sys2Proof.Machine.execSFlush s
  -- the streaming session (43_streaming.md)
  | .sRewind => Sys2Proof.Machine.execSRewind s
  | .sFetch => Sys2Proof.Machine.execSFetch s
  | .sSend => Sys2Proof.Machine.execSSend s
  -- the completion (44_completion.md)
  | .sAckWait => Sys2Proof.Machine.execSAckWait s
  | .sAckRead => Sys2Proof.Machine.execSAckRead s
  | .sFailed => Sys2Proof.Machine.execSFailed s
  | .sClose => Sys2Proof.Machine.execSClose s
  | .sDone => Sys2Proof.Machine.execSDone s
  | .sAborted => Sys2Proof.Machine.execSAborted s
  -- the reserved code (30_encoding.md R83)
  | .reservedState0xF => Sys2Proof.Machine.execReservedState0xF s

end Sys2Proof.Machine
end

