-- ==== Sys2Proof/Machine/Step.lean ====
section
/-! DEFINITION. One step of the block (00_scope.md R6, R10): the host's move for the step is taken
first, reset having priority over everything (70_reset_and_hazards.md R251), and otherwise `STATE`
selects the operation (30_encoding.md R82). -/

namespace Sys2Proof.Machine

/-- One step. -/
def step (s : State) : Host.Outcome State Fault Refusal :=
  match s.host with
  | [] => exec (decodeState s.state) s
  | .idle :: rest => exec (decodeState s.state) { s with host := rest }
  | .reset cfg image script later :: rest =>
    .next ({ s with host := rest }.hostReset cfg image script later)

/-- The state in which the very next step runs the operation of a table word (log entry 14). A state
code goes into `STATE`. An image byte becomes the byte the next `ImgNext` delivers to `S_FETCH`,
with the CBPE-1 thresholds that R81's table is written for. The host is idle, so that no reset takes
the step. A number that is no word leaves the state alone. -/
def State.withFetchWord (s : State) (nbits w : Nat) : State :=
  match tableWord nbits w with
  | .ok (.state4 c) => { s with state := c, host := [] }
  | .ok (.byte8 b) =>
    { s with
      state := Code.sFetch, image := [b], imgPos := 0, host := [],
      params := { s.params with
        skipLimit := Params.cbpe1.skipLimit, alphaLimit := Params.cbpe1.alphaLimit } }
  | .error _ => s

end Sys2Proof.Machine
end

