-- ==== Sys2Proof/Machine/Trace.lean ====
section
/-! DEFINITION. The trace notation of 30_encoding.md R92, R93 and R97: how requests, responses,
reports, configurations, images and steps are spelled. Notation only: no step reads it. -/

namespace Sys2Proof.Machine

/-- One hexadecimal digit, uppercase. -/
def hexDigit (n : Nat) : String :=
  match n with
  | 0 => "0" | 1 => "1" | 2 => "2" | 3 => "3" | 4 => "4" | 5 => "5" | 6 => "6" | 7 => "7"
  | 8 => "8" | 9 => "9" | 10 => "A" | 11 => "B" | 12 => "C" | 13 => "D" | 14 => "E" | _ => "F"

/-- The last `k` hexadecimal digits of a number. -/
def hex : Nat → Nat → String
  | 0, _ => ""
  | k + 1, n => hex k (n / 16) ++ hexDigit (n % 16)

/-- An identifier, at least three digits: `0x<hhh>`, more where `ID_W` needs them. -/
def spellId (p : Params) (id : Nat) : String := "0x" ++ hex ((p.idW + 3) / 4) id

/-- Data bytes: `hh hh ...`. -/
def spellBytes (bs : List Byte) : String := String.intercalate " " (bs.map fun b => hex 2 b.toNat)

/-- A timeout: a number or `INF`. -/
def Timeout.spell : Timeout → String
  | .units n => toString n
  | .infinite => "INF"

/-- The request spellings of R92. -/
def Request.spell (p : Params) : Request → String
  | .openCh => "OPEN"
  | .configure _ => "CONFIGURE rate=BITRATE"
  | .goLive => "GO_LIVE"
  | .send id dlc data t =>
    "SEND id=" ++ spellId p id ++ " dlc=" ++ toString dlc ++ " data=" ++ spellBytes data
      ++ " t=" ++ Timeout.spell t
  | .recvMatch id t => "RECV_MATCH id=" ++ spellId p id ++ " t=" ++ Timeout.spell t
  | .recv t => "RECV t=" ++ Timeout.spell t
  | .flush => "FLUSH"
  | .closeCh => "CLOSE"
  | .imgRewind => "REWIND"
  | .imgNext => "NEXT"

/-- The response spellings of R93. -/
def Response.spell (p : Params) : Response → String
  | .ok => "OK"
  | .fail => "FAIL"
  | .done => "DONE"
  | .msg id dlc data =>
    "MSG id=" ++ spellId p id ++ " dlc=" ++ toString dlc ++ " data=" ++ spellBytes data
  | .byte b => "BYTE 0x" ++ hex 2 b.toNat
  | .imgEnd => "END"

/-- The names of the state codes (R82). -/
def spellState (c : StateCode) : String :=
  match decodeState c with
  | .sOpen => "S_OPEN"
  | .sConfig => "S_CONFIG"
  | .sGolive => "S_GOLIVE"
  | .sStart => "S_START"
  | .sWaitHb => "S_WAIT_HB"
  | .sFlush => "S_FLUSH"
  | .sRewind => "S_REWIND"
  | .sFetch => "S_FETCH"
  | .sSend => "S_SEND"
  | .sAckWait => "S_ACK_WAIT"
  | .sAckRead => "S_ACK_READ"
  | .sFailed => "S_FAILED"
  | .sClose => "S_CLOSE"
  | .sDone => "S_DONE"
  | .sAborted => "S_ABORTED"
  | .reservedState0xF => "RESERVED_STATE_0xF"
  | .nibDigit _ | .nibSkip _ | .nibAt | .nibAlpha _ => ""

/-- The names of the cause codes (R90); a reserved code is spelled by its number. -/
def spellCause (c : CauseCode) : String :=
  match c.toNat with
  | 0x0 => "NONE"
  | 0x1 => "E_OPEN"
  | 0x2 => "E_CONFIG"
  | 0x3 => "E_GOLIVE"
  | 0x4 => "E_NODEV"
  | 0x5 => "E_START"
  | 0x6 => "E_MALFORMED"
  | 0x8 => "F_ACK_MATCH"
  | 0x9 => "F_ACK_RECV"
  | 0xA => "F_ACK_VALUE"
  | 0xB => "F_SEND_LIMIT"
  | n => "0x" ++ hex 1 n

/-- A report as R97 spells it: `<kind>(<cause>[,cerr])`. -/
def Report.spell (r : Report) : String :=
  (match r.kind with
    | .success => "SUCCESS"
    | .fail => "FAIL"
    | .fatal => "FATAL")
    ++ "(" ++ spellCause r.cause ++ (if r.cerr then ",cerr" else "") ++ ")"

/-- The configuration line of R97. -/
def spellConfig (p : Params) (c : CfgInputs) : String :=
  "cfg dev=" ++ spellId p c.deviceId ++ " bypass=" ++ (if c.bypass then "1" else "0")
    ++ " check=" ++ (if c.check then "1" else "0") ++ " limit=" ++ toString c.retryLimit.toNat

/-- The image line of R97; `img` alone is the empty image. -/
def spellImage (image : List Byte) : String :=
  String.join ("img" :: image.map fun b => " " ++ hex 2 b.toNat)

/-- The register writes of a step in R97's form, as 95_test_vectors.md spells them: the registers that
the step's arm writes, in the order of those traces, with `STATE` left out where `S_FETCH` goes on fetching,
and then the report. The arm is known from the two states and from whether a group's nibble was
taken. -/
def spellEffects (s t : State) : List String :=
  let fetching := s.state == Code.sFetch && t.state == Code.sFetch
  let slot := fetching && s.nibCnt != t.nibCnt
  let rewound := s.state == Code.sRewind
  let grouped := s.state == Code.sFetch && t.state == Code.sSend
  let raised := s.state != Code.sClose &&
    (t.state == Code.sClose || t.state == Code.sAborted || t.state == Code.sFailed)
  let closed := s.state == Code.sClose
  (if rewound || s.state == Code.sSend && t.state == Code.sFetch then
      ["CNT=0x" ++ hex 4 t.cnt] else [])
    ++ (if slot && t.nibCnt == 1 then ["NIB0=" ++ toString t.nib0.toNat] else [])
    ++ (if slot && t.nibCnt == 2 then ["NIB1=" ++ toString t.nib1.toNat] else [])
    ++ (if slot && t.nibCnt == 3 then ["NIB2=" ++ toString t.nib2.toNat] else [])
    ++ (if grouped then ["FRAME=0x" ++ hex 8 t.frame.toNat] else [])
    ++ (if rewound || slot || grouped || s.state == Code.sFetch && t.state == Code.sAckWait then
        ["NIBCNT=" ++ toString t.nibCnt.toNat] else [])
    ++ (if rewound || grouped || s.state == Code.sSend then
        ["RETRY=" ++ toString t.retry.toNat] else [])
    ++ (if raised then ["CAUSE=" ++ spellCause t.cause] else [])
    ++ (if s.state == Code.sOpen && t.link || closed then
        ["LINK=" ++ (if t.link then "1" else "0")] else [])
    ++ (if closed then ["CLOSE_ERR=" ++ (if t.closeErr then "1" else "0")] else [])
    ++ (if fetching then [] else ["STATE=" ++ spellState t.state])
    ++ (t.reports.drop s.reports.length).map fun r => "report " ++ r.spell

/-- The effects part of a step's line: the writes, or `(skip)` for an image byte that wrote none (the
example of 43_streaming.md R181). -/
def spellEffectsPart (effects : List String) : String :=
  if effects.isEmpty then " ; (skip)" else " ; " ++ String.intercalate ", " effects

/-- The line of a step from `s` to `t` (R97): state name, request, response, effects. A halted state
has neither (R205, R206), and a request that is not answered has no response (the last step of
program P5). -/
def spellStep (s t : State) : String :=
  spellState s.state ++ ": " ++
    match (t.trace.drop s.trace.length).head?, s.request with
    | some e, _ => e.req.spell s.params ++ " => " ++ e.rsp.spell s.params
        ++ spellEffectsPart (spellEffects s t)
    | none, some req => req.spell s.params ++ " =>"
    | none, none => "- => -" ++ (if s.terminal then "" else spellEffectsPart (spellEffects s t))

end Sys2Proof.Machine
end

