-- ==== Sys2Proof/Safety.lean ====
section
/-! DEFINITION. What counts as a safe run, in the terms the statements use: the register invariants of
10_state.md R35, the invariants of the report log, and the order properties of the request trace
(20_memory.md R70, 42_handshake.md R166, 43_streaming.md R187, 44_completion.md R208). -/

namespace Sys2Proof.Machine

/-! ## Registers -/

/-- The register invariants of R35. -/
structure State.Inv (s : State) : Prop where
  /-- R20, R23, R7: `CNT` is a register of `CNT_W` bits, given that `CNT_INIT` fits in it. -/
  cnt_width : s.params.cntInit < 2 ^ s.params.cntW → s.cnt < 2 ^ s.params.cntW
  /-- R35: `LINK = 0` iff `STATE ∈ {S_OPEN, S_DONE, S_ABORTED}`. -/
  link_iff : s.link = false ↔
    s.state = Code.sOpen ∨ s.state = Code.sDone ∨ s.state = Code.sAborted
  /-- R35: where `NIBCNT` can be other than 0. -/
  nibCnt_where : s.nibCnt ≠ 0 → s.state = Code.sFetch ∨
    ((s.state = Code.sClose ∨ s.state = Code.sAborted) ∧ s.cause = FatalCause.eMalformed.code)
  /-- R35: a fatal code stands in `CAUSE` only in `S_CLOSE` and `S_ABORTED`. -/
  fatal_where : isFatalCode s.cause → s.state = Code.sClose ∨ s.state = Code.sAborted
  /-- R35: in `S_CLOSE` the cause is `NONE` or fatal, never soft; R204: and never `E_OPEN`. -/
  close_cause : s.state = Code.sClose →
    s.cause = noCause ∨ (isFatalCode s.cause ∧ s.cause ≠ FatalCause.eOpen.code)
  /-- R35: `STATE ≠ 0xF`. -/
  not_reserved : s.state ≠ Code.reserved
  /-- R91: no reserved cause code is ever in `CAUSE`. -/
  cause_known : s.cause = noCause ∨ isFatalCode s.cause ∨ isSoftCode s.cause
  /-- R204: a run that is done has no cause. -/
  done_cause : s.state = Code.sDone → s.cause = noCause
  /-- R206: a run that is aborted has a fatal cause. -/
  aborted_cause : s.state = Code.sAborted → isFatalCode s.cause
  /-- R226: a failed attempt has a soft cause. -/
  failed_cause : s.state = Code.sFailed → isSoftCode s.cause

/-! ## Reports -/

/-- The report bytes that can occur: the list of 95_test_vectors.md V6.1. -/
def possibleReportBytes : List Byte :=
  [0x00, 0x04, 0x81, 0x91, 0xA1, 0xB1, 0x12, 0x22, 0x26, 0x32, 0x36, 0x42, 0x46, 0x52, 0x56,
   0x62, 0x66]

/-- The report log of a run (R96): only possible reports, and SUCCESS or FATAL exactly once, at the
end, in the halted states. -/
structure State.ReportInv (s : State) : Prop where
  possible : ∀ r ∈ s.reports, r.encode ∈ possibleReportBytes
  running : s.terminal = false → ∀ r ∈ s.reports, r.kind = .fail
  done_last : s.state = Code.sDone → ∃ fails last, s.reports = fails ++ [last] ∧
    (∀ r ∈ fails, r.kind = .fail) ∧ last.kind = .success ∧ last.cerr = s.closeErr
  aborted_last : s.state = Code.sAborted → ∃ fails last, s.reports = fails ++ [last] ∧
    (∀ r ∈ fails, r.kind = .fail) ∧ last.kind = .fatal ∧ last.cause = s.cause

/-! ## The request trace -/

/-- A `SEND` request. -/
def Request.isSend : Request → Bool
  | .send _ _ _ _ => true
  | _ => false

/-- A `SEND` the transport accepted. -/
def Exchange.acceptedSend (e : Exchange) : Bool := e.req.isSend && e.rsp == .ok

/-- A `SEND` that answered FAIL. -/
def Exchange.failedSend (e : Exchange) : Bool := e.req.isSend && e.rsp == .fail

/-- The part of a trace after its last rewind: what the current Streaming phase has exchanged. -/
def sinceRewind : List Exchange → List Exchange
  | [] => []
  | e :: tr =>
    if tr.any (fun x => x.req == .imgRewind) then sinceRewind tr
    else if e.req = .imgRewind then tr
    else e :: tr

/-- A Streaming phase has begun. -/
def streamed (tr : List Exchange) : Bool := tr.any fun e => e.req == .imgRewind

/-- The number of records accepted since the last rewind. -/
def recordsSent (tr : List Exchange) : Nat := (sinceRewind tr).countP Exchange.acceptedSend

/-- The `SEND`s before the first Streaming phase: the start commands. -/
def startCommands (tr : List Exchange) : Nat :=
  (tr.takeWhile fun e => e.req != .imgRewind).countP fun e => e.req.isSend

/-- The counter of the next record after a trace: `CNT_INIT`, advanced once for each record accepted in
the phase (R23, R185); so `CNT_INIT` plus their number, modulo 2^`CNT_W` (`nextCounter_eq`). -/
def nextCounter (p : Params) (tr : List Exchange) : Nat :=
  (nextCount p)^[recordsSent tr] p.cntInit

/-- Every data `SEND` carries, in its first two bytes, the number of its record: `CNT_INIT` plus the
records accepted before it in the phase (R187 (a), (b), (c)). -/
def Numbered (p : Params) (tr : List Exchange) : Prop :=
  ∀ pre e post, tr = pre ++ e :: post → streamed pre = true → e.req.isSend = true →
    ∃ d1 d2, e.req = .send p.dataId p.dataDlc
      [(countField (nextCounter p pre)).extractLsb' 8 8,
        (countField (nextCounter p pre)).extractLsb' 0 8, d1, d2] p.tData

/-- What keeps a trace `Numbered`. -/
structure State.OrderInv (s : State) : Prop where
  setup : s.state = Code.sOpen ∨ s.state = Code.sConfig ∨ s.state = Code.sGolive ∨
    s.state = Code.sStart → streamed s.trace = false
  counter : s.state = Code.sFetch ∨ s.state = Code.sSend →
    s.cnt = nextCounter s.params s.trace
  frame_counter : s.state = Code.sSend → s.frame.extractLsb' 16 16 = countField s.cnt
  numbered : Numbered s.params s.trace

/-- A failed `SEND` is followed by no other `SEND` than itself again (R26, R184, R187 (a)). -/
structure State.ResendInv (s : State) : Prop where
  resend : ∀ pre e e' post, s.trace = pre ++ e :: e' :: post → e.failedSend = true →
    e'.req.isSend = true → e'.req = e.req
  last : ∀ pre e, s.trace = pre ++ [e] → e.failedSend = true →
    (s.state = Code.sSend ∧ e.req = s.dataMessage) ∨ s.state = Code.sFailed ∨
      s.state = Code.sWaitHb ∨ s.state = Code.sClose ∨ s.state = Code.sAborted

/-- One opening, at most one start command, and nothing after a close (R166 (b), (d), R63). -/
structure State.SetupInv (s : State) : Prop where
  opens : s.trace.countP (fun e => e.req == .openCh) = if s.state = Code.sOpen then 0 else 1
  starts : startCommands s.trace ≤ 1
  setup : s.state = Code.sOpen ∨ s.state = Code.sConfig ∨ s.state = Code.sGolive ∨
    s.state = Code.sStart → (∀ e ∈ s.trace, e.req.isSend = false) ∧ streamed s.trace = false
  streaming : s.state = Code.sFetch ∨ s.state = Code.sSend → streamed s.trace = true
  closed_end : ∀ pre e post, s.trace = pre ++ e :: post → e.req = .closeCh → post = []
  closed_halted : (∃ e ∈ s.trace, e.req = .closeCh) → s.terminal = true

/-- The heartbeat wait answered OK (R164). -/
def heartbeatSeen (p : Params) : Exchange := ⟨.recvMatch p.hbId p.tHb, .ok⟩

/-- The receive queue flushed (R165). -/
def queueFlushed : Exchange := ⟨.flush, .done⟩

/-- Every rewind follows one heartbeat and one flush, with nothing between (R166 (c)). -/
structure State.HandshakeInv (s : State) : Prop where
  at_flush : s.state = Code.sFlush → ∃ pre, s.trace = pre ++ [heartbeatSeen s.params]
  at_rewind : s.state = Code.sRewind →
    ∃ pre, s.trace = pre ++ [heartbeatSeen s.params, queueFlushed]
  every : ∀ pre e post, s.trace = pre ++ e :: post → e.req = .imgRewind →
    ∃ pre', pre = pre' ++ [heartbeatSeen s.params, queueFlushed]

/-- The filtered receive on the completion identifier answered OK (R200). -/
def ackMatched (p : Params) : Exchange := ⟨.recvMatch p.ackId p.tAck, .ok⟩

/-- A run is done only after an accepted acknowledgement (R208 (c)). -/
structure State.AckInv (s : State) : Prop where
  at_read : s.state = Code.sAckRead → ∃ pre, s.trace = pre ++ [ackMatched s.params]
  at_close : s.state = Code.sClose → s.cause = noCause → ∃ pre id dlc data,
    s.trace = pre ++ [ackMatched s.params, ⟨.recv s.params.tAck, .msg id dlc data⟩] ∧
    ackAccepted s.params dlc data = true
  at_done : s.state = Code.sDone → ∃ pre id dlc data r,
    s.trace = pre ++ [ackMatched s.params, ⟨.recv s.params.tAck, .msg id dlc data⟩,
      ⟨.closeCh, r⟩] ∧ ackAccepted s.params dlc data = true

/-! ## Dead registers -/

/-- Two states that agree in everything a rule can still read (R36): all but the streaming registers
whose values the next `S_REWIND`, nibble or group will write before they are read. -/
structure AgreeLive (s t : State) : Prop where
  same : t = { s with cnt := t.cnt, nib0 := t.nib0, nib1 := t.nib1, nib2 := t.nib2,
                      nibCnt := t.nibCnt, frame := t.frame, retry := t.retry }
  streaming : s.state = Code.sFetch ∨ s.state = Code.sSend →
    t.cnt = s.cnt ∧ t.nibCnt = s.nibCnt ∧ t.retry = s.retry
  nib0_live : s.state = Code.sFetch ∨ s.state = Code.sSend → 1 ≤ s.nibCnt.toNat → t.nib0 = s.nib0
  nib1_live : s.state = Code.sFetch ∨ s.state = Code.sSend → 2 ≤ s.nibCnt.toNat → t.nib1 = s.nib1
  nib2_live : s.state = Code.sFetch ∨ s.state = Code.sSend → 3 ≤ s.nibCnt.toNat → t.nib2 = s.nib2
  frame_live : s.state = Code.sSend → t.frame = s.frame

/-! ## Who takes a nibble -/

/-- The operation decodes a nibble in this state (R122 to R124, R182): one of the three nibble classes
(as operations by log entry 12), or `S_FETCH` at an image byte that is not skipped. -/
def takesNibble (i : Instr) (s : State) : Prop :=
  i = .nibAt ∨ (∃ b, i = .nibDigit b ∨ i = .nibAlpha b) ∨
    (i = .sFetch ∧ ∃ b v, s.image[s.imgPos]? = some b ∧ dec s.params b = .nib v)

/-! ## What a Streaming phase should send -/

/-- `nibbles(IMAGE)` of R126. -/
def nibbles (p : Params) (image : List Byte) : List Byte :=
  image.filterMap fun b => match dec p b with
    | .skip => none
    | .nib v => some v

/-- The frames of a nibble sequence from a first counter on: one for each complete group of four, the
rest discarded (R126, R143). -/
def framesFrom (p : Params) (c : Nat) : List Byte → List Frame
  | n0 :: n1 :: n2 :: n3 :: rest =>
    group (countField c) n0 n1 n2 n3 :: framesFrom p (nextCount p c) rest
  | _ => []

/-- The data message that carries a frame (R87). -/
def frameMessage (p : Params) (f : Frame) : Request :=
  .send p.dataId p.dataDlc (frameBytes f) p.tData

/-- The transport's answers that fail each record so many times and then accept it. -/
def answersFor (fails : List Nat) : List Response :=
  fails.flatMap fun n => List.replicate n .fail ++ [.ok]

/-- The exchanges of frames that are each failed so many times and then accepted. -/
def sendsFor (p : Params) (frames : List Frame) (fails : List Nat) : List Exchange :=
  (frames.zip fails).flatMap fun x =>
    List.replicate x.2 ⟨frameMessage p x.1, .fail⟩ ++ [⟨frameMessage p x.1, .ok⟩]

/-- The exchanges of a trace that are `SEND`s. -/
def sendsOf (tr : List Exchange) : List Exchange := tr.filter fun e => e.req.isSend

/-- The image holds only nibbles the mode accepts: Preserve mode, or every nibble valid (R125). -/
abbrev acceptable (s : State) : Prop :=
  s.cfg.check = false ∨ ∀ v ∈ nibbles s.params s.image, valid v = true

end Sys2Proof.Machine
end

