-- ==== Sys2Proof/Certificates/Slice0/Obligations.lean ====
section
/-! DEFINITION. The statements about the model, one `Prop` each, from the numbered rules of the spec.
The statements of an operation's result give the whole next state, so each says what the operation
writes, that it writes nothing else, and that it completes under the hypotheses written. -/

open Sys2Proof Sys2Proof.Machine

/-! ## Encodings -/

/-- R81, R82: words written out from the tables decode to the operation they stand for. -/
def Obligations.SampleWordsDecode : Prop :=
  decode (.byte8 0b00110111) = .nibDigit 0x37 ∧ decode (.byte8 0b00111111) = .nibDigit 0x3F ∧
  decode (.byte8 0b00000010) = .nibSkip 0x02 ∧ decode (.byte8 0b00101111) = .nibSkip 0x2F ∧
  decode (.byte8 0b01000000) = .nibAt ∧ decode (.byte8 0b01000001) = .nibAlpha 0x41 ∧
  decode (.byte8 0b11111111) = .nibAlpha 0xFF ∧
  decode (.state4 0b0000) = .sOpen ∧ decode (.state4 0b0111) = .sFetch ∧
  decode (.state4 0b1010) = .sAckRead ∧ decode (.state4 0b1111) = .reservedState0xF

/-- R81, R82: no operand of a well-formed operation is lost by encoding and decoding it. -/
def Obligations.EncodeThenDecode : Prop :=
  ∀ i : Instr, i.WellFormed → decode (encode i) = i

/-- R81, R82, R94: every byte and every state code decodes to a well-formed operation, and encoding
that operation gives the word back, so no two words of a map share an operation. -/
def Obligations.DecodeThenEncode : Prop :=
  ∀ w : CodeWord, (decode w).WellFormed ∧ encode (decode w) = w

/-- R81: the priority-ordered match/mask table, its bytes-taken column and its operation column, for
the CBPE-1 decoder thresholds. -/
def Obligations.ByteClassTable : Prop :=
  ∀ b : Byte,
    (b &&& 0xF0 = 0x30 → byteClass b = .digit) ∧
    (b &&& 0xF0 ≠ 0x30 → b &&& 0xC0 = 0x00 → byteClass b = .skip) ∧
    (b &&& 0xF0 ≠ 0x30 → b &&& 0xC0 ≠ 0x00 → b &&& 0xFF = 0x40 → byteClass b = .atSign) ∧
    (b &&& 0xF0 ≠ 0x30 → b &&& 0xC0 ≠ 0x00 → b &&& 0xFF ≠ 0x40 → byteClass b = .alpha) ∧
    (byteClass b = .digit ↔ 0x30 ≤ b.toNat ∧ b.toNat ≤ 0x3F) ∧
    (byteClass b = .skip ↔ b.toNat ≤ 0x2F) ∧
    (byteClass b = .atSign ↔ b = 0x40) ∧
    (byteClass b = .alpha ↔ 0x41 ≤ b.toNat) ∧
    classOf Params.cbpe1 b = byteClass b ∧
    (byteClass b = .digit → dec Params.cbpe1 b = .nib (b - 48)) ∧
    (byteClass b = .skip → dec Params.cbpe1 b = .skip) ∧
    (byteClass b = .atSign → dec Params.cbpe1 b = .nib 16) ∧
    (byteClass b = .alpha → dec Params.cbpe1 b = .nib (b - 55))

/-- R82: the operation and the request of each state code. The request column is a function of the
state here; `StepIssuesTableRequest` says that the steps issue exactly these. -/
def Obligations.StateCodeTable : Prop :=
  ∀ s : State,
    (s.state = 0x0 → decodeState s.state = .sOpen ∧ s.request = some .openCh) ∧
    (s.state = 0x1 → decodeState s.state = .sConfig ∧
      s.request = some (.configure s.params.bitrate)) ∧
    (s.state = 0x2 → decodeState s.state = .sGolive ∧ s.request = some .goLive) ∧
    (s.state = 0x3 → decodeState s.state = .sStart ∧
      ((s.cfg.bypass = true ∨ s.deviceId = 0) → s.request = none) ∧
      (s.cfg.bypass = false → s.deviceId ≠ 0 → s.request = some (.send s.deviceId s.params.startDlc
        (List.replicate s.params.startDlc s.params.startFill) s.params.tStart))) ∧
    (s.state = 0x4 → decodeState s.state = .sWaitHb ∧
      s.request = some (.recvMatch s.params.hbId s.params.tHb)) ∧
    (s.state = 0x5 → decodeState s.state = .sFlush ∧ s.request = some .flush) ∧
    (s.state = 0x6 → decodeState s.state = .sRewind ∧ s.request = some .imgRewind) ∧
    (s.state = 0x7 → decodeState s.state = .sFetch ∧ s.request = some .imgNext) ∧
    (s.state = 0x8 → decodeState s.state = .sSend ∧
      s.request = some (.send s.params.dataId s.params.dataDlc (frameBytes s.frame)
        s.params.tData)) ∧
    (s.state = 0x9 → decodeState s.state = .sAckWait ∧
      s.request = some (.recvMatch s.params.ackId s.params.tAck)) ∧
    (s.state = 0xA → decodeState s.state = .sAckRead ∧ s.request = some (.recv s.params.tAck)) ∧
    (s.state = 0xB → decodeState s.state = .sFailed ∧ s.request = none) ∧
    (s.state = 0xC → decodeState s.state = .sClose ∧ s.request = some .closeCh) ∧
    (s.state = 0xD → decodeState s.state = .sDone ∧ s.request = none) ∧
    (s.state = 0xE → decodeState s.state = .sAborted ∧ s.request = none) ∧
    (s.state = 0xF → decodeState s.state = .reservedState0xF ∧ s.request = none)

/-! ## Decoder, composer and the words the host reads -/

/-- R120, R125: the decoder function with the CBPE-1 thresholds: total, values 0..200, and the validity
bound of Reject mode. -/
def Obligations.DecoderValues : Prop :=
  ∀ b : Byte,
    (b.toNat < 48 → dec Params.cbpe1 b = .skip) ∧
    (64 < b.toNat → ∃ v, dec Params.cbpe1 b = .nib v ∧ v.toNat + 55 = b.toNat) ∧
    (48 ≤ b.toNat → b.toNat ≤ 64 → ∃ v, dec Params.cbpe1 b = .nib v ∧ v.toNat + 48 = b.toNat) ∧
    (∀ v, dec Params.cbpe1 b = .nib v → v.toNat ≤ 200 ∧
      (valid v = true ↔ 0x30 ≤ b.toNat ∧ b.toNat ≤ 0x46 ∧ b ≠ 0x40))

/-- R140, R141, R142, R66: the composed frame as a number and as payload bytes, for every counter and
data byte; the packed byte, the low eight bits of the sum, and the usual hex pair for nibbles up to 15;
and a group of four nibbles as a number: the counter, then the two packed bytes, first nibble high;
with the example of R142. -/
def Obligations.ComposerLayout : Prop :=
  (∀ (cnt : Count) (d1 d2 : Byte),
    (compose cnt d1 d2).toNat = cnt.toNat * 2 ^ 16 + d1.toNat * 2 ^ 8 + d2.toNat ∧
    frameBytes (compose cnt d1 d2) = [cnt.extractLsb' 8 8, cnt.extractLsb' 0 8, d1, d2]) ∧
  (∀ nh nl : Byte,
    (pack nh nl).toNat = (nh.toNat * 16 + nl.toNat) % 256 ∧
    (nh.toNat ≤ 15 → nl.toNat ≤ 15 → (pack nh nl).toNat = nh.toNat * 16 + nl.toNat)) ∧
  (∀ (cnt : Count) (n0 n1 n2 n3 : Byte),
    (group cnt n0 n1 n2 n3).toNat = cnt.toNat * 2 ^ 16 +
      (n0.toNat * 16 + n1.toNat) % 256 * 2 ^ 8 + (n2.toNat * 16 + n3.toNat) % 256) ∧
  group 1 15 0 0 10 = 0x0001F00A

/-- R32: every field of `STATUS` at its place, the two reserved bits zero, and 0 after reset. The counter
field is all of `CNT` where `CNT` is below 2^16, as in CBPE-1; that it is the low sixteen bits of a wider
counter is the model's choice (log entry 4). -/
def Obligations.StatusLayout : Prop :=
  (∀ s : State,
    s.status.extractLsb' 0 4 = s.state ∧
    s.status.extractLsb' 4 4 = s.cause ∧
    s.status.getLsbD 8 = s.link ∧
    s.status.getLsbD 9 = s.closeErr ∧
    (s.status.getLsbD 10 = true ↔ s.state = Code.sDone ∨ s.state = Code.sAborted) ∧
    (s.status.getLsbD 11 = true ↔ s.state = Code.sDone) ∧
    s.status.extractLsb' 12 2 = s.nibCnt ∧
    s.status.extractLsb' 14 2 = 0#2 ∧
    s.status.extractLsb' 16 16 = BitVec.ofNat 16 s.cnt ∧
    (s.cnt < 2 ^ 16 → (s.status.extractLsb' 16 16).toNat = s.cnt)) ∧
  State.reset.status = 0

/-- R96: the fields of a report byte and the kind codes. -/
def Obligations.ReportByteLayout : Prop :=
  (∀ r : Report,
    r.encode.extractLsb' 0 2 = r.kind.code ∧ r.encode.getLsbD 2 = r.cerr ∧
    r.encode.getLsbD 3 = false ∧ r.encode.extractLsb' 4 4 = r.cause) ∧
  ReportKind.success.code = 0 ∧ ReportKind.fail.code = 1 ∧ ReportKind.fatal.code = 2

/-- R22: the session view of every state code. -/
def Obligations.SessionViewTable : Prop :=
  ∀ c : CauseCode,
    sessionView Code.sOpen c = some .init ∧ sessionView Code.sConfig c = some .init ∧
    sessionView Code.sGolive c = some .init ∧ sessionView Code.sStart c = some .startCommand ∧
    sessionView Code.sWaitHb c = some .waitingForHeartbeat ∧
    sessionView Code.sFlush c = some .waitingForHeartbeat ∧
    sessionView Code.sRewind c = some .streaming ∧ sessionView Code.sFetch c = some .streaming ∧
    sessionView Code.sSend c = some .streaming ∧
    sessionView Code.sAckWait c = some .awaitingCompletion ∧
    sessionView Code.sAckRead c = some .awaitingCompletion ∧
    sessionView Code.sFailed c = some .failed ∧
    (c = noCause → sessionView Code.sClose c = some (.done true)) ∧
    (isFatalCode c → sessionView Code.sClose c = some (.aborted true)) ∧
    sessionView Code.sDone c = some (.done false) ∧
    sessionView Code.sAborted c = some (.aborted false)

/-! ## Reset and the step -/

/-- R20, R34: the reset value of every register and the empty report log, after reset and after any
reset by the host. -/
def Obligations.ResetValues : Prop :=
  ∀ t : State, t = State.reset ∨ (∃ s cfg image sc l, t = State.hostReset s cfg image sc l) →
    t.state = Code.sOpen ∧ t.cnt = 0 ∧ t.nib0 = 0 ∧ t.nib1 = 0 ∧ t.nib2 = 0 ∧ t.nibCnt = 0 ∧
    t.frame = 0 ∧ t.retry = 0 ∧ t.cause = 0 ∧ t.link = false ∧ t.closeErr = false ∧ t.reports = []

/-- R251, R250: reset asserted by the host takes priority over every step, whatever the state and
whatever request is outstanding: no answer is consumed and `IMGPOS` is as it was. That the move carries
the configuration and the image of the coming run and, with no condition on them, the transport's
answers from then on (I7), and that the request record starts again, are the model's
(notes/assumptions/10.md, 11.md). -/
def Obligations.HostResetTakesPriority : Prop :=
  ∀ (s : State) (cfg : CfgInputs) (image : List Byte) (sc : List Response) (l : Later)
    (rest : List HostMove),
    s.host = .reset cfg image sc l :: rest →
    step s = .next
      { state := Code.sOpen, cnt := 0, nib0 := 0, nib1 := 0, nib2 := 0, nibCnt := 0, frame := 0,
        retry := 0, cause := noCause, link := false, closeErr := false, reports := [],
        params := s.params, cfg := cfg, image := image, imgPos := s.imgPos, script := sc,
        later := l, host := rest, trace := [] }

/-- R6, R10, R82: where the host does not reset, a step is the operation that `STATE` selects, run in
the state with the host's move taken. -/
def Obligations.StepRunsSelectedOperation : Prop :=
  ∀ s : State,
    (s.host = [] → step s = exec (decode (.state4 s.state)) s) ∧
    (∀ rest, s.host = .idle :: rest →
      step s = exec (decode (.state4 s.state)) { s with host := rest })

/-- R81, R181: with the CBPE-1 thresholds, `S_FETCH` on an image byte runs the byte-class operation
that the match/mask table decodes from the byte, and so does the step. That a byte class is an
operation of its own, this fetch step, is the model's reading (log entry 12). -/
def Obligations.FetchRunsDecodedByte : Prop :=
  ∀ (s : State) (b : Byte), s.params.skipLimit = 48 → s.params.alphaLimit = 64 →
    s.image[s.imgPos]? = some b →
    exec .sFetch s = exec (decode (.byte8 b)) s ∧
    (s.state = Code.sFetch → s.host = [] → step s = exec (decode (.byte8 b)) s)

/-! ## Results of the operations: handshake -/

/-- R160: `S_OPEN`, both answers. -/
def Obligations.OpenResult : Prop :=
  decode (.state4 0x0) = .sOpen ∧ State.reset.state = 0x0 ∧
  ∀ (s : State) (rest : List Response),
    (s.script = .ok :: rest → exec .sOpen s = .next { s with
      script := rest, trace := s.trace ++ [⟨.openCh, .ok⟩], link := true,
      state := Code.sConfig }) ∧
    (s.script = .fail :: rest → exec .sOpen s =
      .next ((s.answered .openCh .fail rest).raiseFatal .eOpen)) ∧
    (s.script = .fail :: rest → s.link = false → exec .sOpen s = .next { s with
      script := rest, trace := s.trace ++ [⟨.openCh, .fail⟩], cause := 0x1,
      state := Code.sAborted, reports := s.reports ++ [⟨.fatal, 0x1, false⟩] })

/-- R161: `S_CONFIG`, both answers. -/
def Obligations.ConfigResult : Prop :=
  decode (.state4 0x1) = .sConfig ∧
  ∀ (s : State) (rest : List Response),
    (s.script = .ok :: rest → exec .sConfig s = .next { s with
      script := rest, trace := s.trace ++ [⟨.configure s.params.bitrate, .ok⟩],
      state := Code.sGolive }) ∧
    (s.script = .fail :: rest → exec .sConfig s =
      .next ((s.answered (.configure s.params.bitrate) .fail rest).raiseFatal .eConfig)) ∧
    (s.script = .fail :: rest → s.link = true → exec .sConfig s = .next { s with
      script := rest, trace := s.trace ++ [⟨.configure s.params.bitrate, .fail⟩], cause := 0x2,
      state := Code.sClose })

/-- R162: `S_GOLIVE`, both answers. -/
def Obligations.GoLiveResult : Prop :=
  decode (.state4 0x2) = .sGolive ∧
  ∀ (s : State) (rest : List Response),
    (s.script = .ok :: rest → exec .sGolive s = .next { s with
      script := rest, trace := s.trace ++ [⟨.goLive, .ok⟩], state := Code.sStart }) ∧
    (s.script = .fail :: rest → exec .sGolive s =
      .next ((s.answered .goLive .fail rest).raiseFatal .eGolive)) ∧
    (s.script = .fail :: rest → s.link = true → exec .sGolive s = .next { s with
      script := rest, trace := s.trace ++ [⟨.goLive, .fail⟩], cause := 0x3,
      state := Code.sClose })

/-- R163: `S_START`: bypass wins and sends nothing; no device id aborts and sends nothing; else one
start command, never resent. The device id is the value on the `ID_W`-bit input (log entry 8). -/
def Obligations.StartResult : Prop :=
  decode (.state4 0x3) = .sStart ∧
  ∀ (s : State) (rest : List Response),
    (s.cfg.bypass = true → exec .sStart s = .next { s with state := Code.sWaitHb }) ∧
    (s.cfg.bypass = false → s.deviceId = 0 → exec .sStart s = .next (s.raiseFatal .eNodev)) ∧
    (s.cfg.bypass = false → s.deviceId ≠ 0 → s.script = .ok :: rest →
      exec .sStart s = .next { s with
        script := rest, state := Code.sWaitHb,
        trace := s.trace ++ [⟨.send s.deviceId s.params.startDlc
          (List.replicate s.params.startDlc s.params.startFill) s.params.tStart, .ok⟩] }) ∧
    (s.cfg.bypass = false → s.deviceId ≠ 0 → s.script = .fail :: rest →
      exec .sStart s = .next ((s.answered (.send s.deviceId s.params.startDlc
        (List.replicate s.params.startDlc s.params.startFill) s.params.tStart) .fail
        rest).raiseFatal .eStart))

/-- R164, R227: `S_WAIT_HB`: OK goes on to the flush; FAIL only reissues, with no cause and no report;
with no answer the step changes nothing (log entry 2). -/
def Obligations.WaitHeartbeatResult : Prop :=
  decode (.state4 0x4) = .sWaitHb ∧
  ∀ (s : State) (rest : List Response),
    (s.script = .ok :: rest → exec .sWaitHb s = .next { s with
      script := rest, trace := s.trace ++ [⟨.recvMatch s.params.hbId s.params.tHb, .ok⟩],
      state := Code.sFlush }) ∧
    (s.script = .fail :: rest → exec .sWaitHb s = .next { s with
      script := rest, trace := s.trace ++ [⟨.recvMatch s.params.hbId s.params.tHb, .fail⟩],
      state := Code.sWaitHb }) ∧
    (s.supplied.script = [] → exec .sWaitHb s = .next s)

/-- R165: `S_FLUSH`, with its only answer. -/
def Obligations.FlushResult : Prop :=
  decode (.state4 0x5) = .sFlush ∧
  ∀ (s : State) (rest : List Response), s.script = .done :: rest →
    exec .sFlush s = .next { s with
      script := rest, trace := s.trace ++ [⟨.flush, .done⟩], state := Code.sRewind }

/-! ## Results of the operations: streaming -/

/-- R180, R53: `S_REWIND`. -/
def Obligations.RewindResult : Prop :=
  decode (.state4 0x6) = .sRewind ∧
  ∀ s : State, exec .sRewind s = .next { s with
    imgPos := 0, trace := s.trace ++ [⟨.imgRewind, .done⟩],
    cnt := s.params.cntInit, nibCnt := 0, retry := 0, state := Code.sFetch }

/-- R121, R181: a skipped byte moves the image position and changes no register but `STATE`, which is
written with `S_FETCH`; `S_FETCH` does so for every byte below `SKIP_LIMIT`. `NIB_SKIP` as an operation
is the model's reading (log entry 12). -/
def Obligations.SkippedByteResult : Prop :=
  ∀ (s : State) (b : Byte),
    exec (.nibSkip b) s = .next { s with
      imgPos := s.imgPos + 1, trace := s.trace ++ [⟨.imgNext, .byte b⟩], state := Code.sFetch } ∧
    (s.image[s.imgPos]? = some b → b.toNat < s.params.skipLimit →
      exec .sFetch s = .next { s with
        imgPos := s.imgPos + 1, trace := s.trace ++ [⟨.imgNext, .byte b⟩],
        state := Code.sFetch })

/-- R182, R122, R123, R124: an accepted nibble fills the slot that `NIBCNT` names, or completes the
group: for the three nibble classes (as operations by log entry 12), and for `S_FETCH` on a byte whose
`dec` is that nibble. The composer takes all of `CNT` in CBPE-1, and the low sixteen bits of a wider
counter by log entry 4. -/
def Obligations.NibbleCollected : Prop :=
  ∀ (s : State) (b v : Byte) (i : Instr),
    (i = .nibDigit b ∧ v = digitNibble s.params b) ∨
    (i = .nibAt ∧ b = 0x40 ∧ v = digitNibble s.params b) ∨
    (i = .nibAlpha b ∧ v = alphaNibble s.params b) ∨
    (i = .sFetch ∧ s.image[s.imgPos]? = some b ∧ dec s.params b = .nib v) →
    s.cfg.check = false ∨ v.toNat ≤ 15 →
    (s.nibCnt = 0 → exec i s = .next { s with
      imgPos := s.imgPos + 1, trace := s.trace ++ [⟨.imgNext, .byte b⟩],
      nib0 := v, nibCnt := 1, state := Code.sFetch }) ∧
    (s.nibCnt = 1 → exec i s = .next { s with
      imgPos := s.imgPos + 1, trace := s.trace ++ [⟨.imgNext, .byte b⟩],
      nib1 := v, nibCnt := 2, state := Code.sFetch }) ∧
    (s.nibCnt = 2 → exec i s = .next { s with
      imgPos := s.imgPos + 1, trace := s.trace ++ [⟨.imgNext, .byte b⟩],
      nib2 := v, nibCnt := 3, state := Code.sFetch }) ∧
    (s.nibCnt = 3 → exec i s = .next { s with
      imgPos := s.imgPos + 1, trace := s.trace ++ [⟨.imgNext, .byte b⟩],
      frame := group (BitVec.ofNat 16 s.cnt) s.nib0 s.nib1 s.nib2 v, nibCnt := 0, retry := 0,
      state := Code.sSend })

/-- R182, R125, R221: in Reject mode a nibble above 15 takes the fatal path with `E_MALFORMED` and
leaves the streaming registers as they were: for the three nibble classes (log entry 12) and for
`S_FETCH`. -/
def Obligations.MalformedNibbleAborts : Prop :=
  ∀ (s : State) (b v : Byte) (i : Instr),
    (i = .nibDigit b ∧ v = digitNibble s.params b) ∨
    (i = .nibAt ∧ b = 0x40 ∧ v = digitNibble s.params b) ∨
    (i = .nibAlpha b ∧ v = alphaNibble s.params b) ∨
    (i = .sFetch ∧ s.image[s.imgPos]? = some b ∧ dec s.params b = .nib v) →
    s.cfg.check = true → 15 < v.toNat →
    (s.link = true → exec i s = .next { s with
      imgPos := s.imgPos + 1, trace := s.trace ++ [⟨.imgNext, .byte b⟩],
      cause := 0x6, state := Code.sClose }) ∧
    (s.link = false → exec i s = .next { s with
      imgPos := s.imgPos + 1, trace := s.trace ++ [⟨.imgNext, .byte b⟩],
      cause := 0x6, state := Code.sAborted, reports := s.reports ++ [⟨.fatal, 0x6, false⟩] })

/-- R183, R54: at the end of the image `S_FETCH` discards the partial group and leaves `IMGPOS`. -/
def Obligations.ImageEndResult : Prop :=
  decode (.state4 0x7) = .sFetch ∧
  ∀ s : State, s.image.length ≤ s.imgPos →
    exec .sFetch s = .next { s with
      trace := s.trace ++ [⟨.imgNext, .imgEnd⟩], nibCnt := 0, state := Code.sAckWait }

/-- R184, R185: an accepted frame advances the counter, modulo 2^16 in CBPE-1, and clears `RETRY`. That
it is modulo 2^`CNT_W` where the parameter (R7) has another value is the model's choice (log entry 4). -/
def Obligations.AcceptedFrameResult : Prop :=
  decode (.state4 0x8) = .sSend ∧
  ∀ (s : State) (rest : List Response), s.script = .ok :: rest →
    exec .sSend s = .next { s with
      script := rest,
      trace := s.trace ++ [⟨.send s.params.dataId s.params.dataDlc
        [s.frame.extractLsb' 24 8, s.frame.extractLsb' 16 8, s.frame.extractLsb' 8 8,
          s.frame.extractLsb' 0 8] s.params.tData, .ok⟩],
      cnt := (s.cnt + 1) % 2 ^ s.params.cntW, retry := 0, state := Code.sFetch }

/-- R184, R186: a failed send counts, saturating at 2^32 - 1; it is resent unless a retry limit is set
and reached, which takes the soft path with `F_SEND_LIMIT`. -/
def Obligations.FailedSendResult : Prop :=
  decode (.state4 0x8) = .sSend ∧
  ∀ (s : State) (rest : List Response) (r : BitVec 32),
    s.script = .fail :: rest → r.toNat = min (s.retry.toNat + 1) (2 ^ 32 - 1) →
    (s.cfg.retryLimit = 0 ∨ r.toNat < s.cfg.retryLimit.toNat →
      exec .sSend s = .next { s with
        script := rest,
        trace := s.trace ++ [⟨.send s.params.dataId s.params.dataDlc
          [s.frame.extractLsb' 24 8, s.frame.extractLsb' 16 8, s.frame.extractLsb' 8 8,
            s.frame.extractLsb' 0 8] s.params.tData, .fail⟩],
        retry := r, state := Code.sSend }) ∧
    (s.cfg.retryLimit ≠ 0 → s.cfg.retryLimit.toNat ≤ r.toNat →
      exec .sSend s = .next { s with
        script := rest,
        trace := s.trace ++ [⟨.send s.params.dataId s.params.dataDlc
          [s.frame.extractLsb' 24 8, s.frame.extractLsb' 16 8, s.frame.extractLsb' 8 8,
            s.frame.extractLsb' 0 8] s.params.tData, .fail⟩],
        retry := r, cause := 0xB, state := Code.sFailed })

/-! ## Results of the operations: completion -/

/-- R200: `S_ACK_WAIT`, both answers. -/
def Obligations.AckWaitResult : Prop :=
  decode (.state4 0x9) = .sAckWait ∧
  ∀ (s : State) (rest : List Response),
    (s.script = .ok :: rest → exec .sAckWait s = .next { s with
      script := rest, trace := s.trace ++ [⟨.recvMatch s.params.ackId s.params.tAck, .ok⟩],
      state := Code.sAckRead }) ∧
    (s.script = .fail :: rest → exec .sAckWait s = .next { s with
      script := rest, trace := s.trace ++ [⟨.recvMatch s.params.ackId s.params.tAck, .fail⟩],
      cause := 0x8, state := Code.sFailed })

/-- R201, R202, R89: `S_ACK_READ`: a message of any identifier is accepted iff it has a byte
`ACK_INDEX` equal to `ACK_VALUE`. -/
def Obligations.AckReadResult : Prop :=
  decode (.state4 0xA) = .sAckRead ∧
  ∀ (s : State) (rest : List Response),
    (∀ id dlc data, s.script = .msg id dlc data :: rest → id < 2 ^ s.params.idW → dlc ≤ 8 →
      data.length = dlc →
      (s.params.ackIndex < dlc → data[s.params.ackIndex]? = some s.params.ackValue →
        exec .sAckRead s = .next { s with
          script := rest, trace := s.trace ++ [⟨.recv s.params.tAck, .msg id dlc data⟩],
          cause := 0x0, state := Code.sClose }) ∧
      (dlc ≤ s.params.ackIndex ∨ data[s.params.ackIndex]? ≠ some s.params.ackValue →
        exec .sAckRead s = .next { s with
          script := rest, trace := s.trace ++ [⟨.recv s.params.tAck, .msg id dlc data⟩],
          cause := 0xA, state := Code.sFailed })) ∧
    (s.script = .fail :: rest → exec .sAckRead s = .next { s with
      script := rest, trace := s.trace ++ [⟨.recv s.params.tAck, .fail⟩],
      cause := 0x9, state := Code.sFailed })

/-- R202, R89: what `S_ACK_READ` does to the registers depends on the message's byte `ACK_INDEX`
alone: not on its identifier nor on its other bytes. -/
def Obligations.AckDependsOnOneByte : Prop :=
  ∀ (s t : State) (id id' dlc dlc' : Nat) (data data' : List Byte) (rest : List Response),
    id < 2 ^ s.params.idW → dlc ≤ 8 → data.length = dlc →
    id' < 2 ^ s.params.idW → dlc' ≤ 8 → data'.length = dlc' →
    data[s.params.ackIndex]? = data'[s.params.ackIndex]? →
    exec .sAckRead { s with script := .msg id dlc data :: rest } = .next t →
    exec .sAckRead { s with script := .msg id' dlc' data' :: rest } = .next { t with
      trace := s.trace ++ [⟨.recv s.params.tAck, .msg id' dlc' data'⟩] }

/-- R203: `S_FAILED` reports the soft cause and returns to the heartbeat wait, with no request. -/
def Obligations.FailedAttemptResult : Prop :=
  decode (.state4 0xB) = .sFailed ∧
  ∀ s : State, exec .sFailed s = .next { s with
    reports := s.reports ++ [⟨.fail, s.cause, false⟩], state := Code.sWaitHb }

/-- R204: `S_CLOSE` releases the handle whatever the answer; `CAUSE` chooses the end of the run. -/
def Obligations.CloseResult : Prop :=
  decode (.state4 0xC) = .sClose ∧
  ∀ (s : State) (rest : List Response) (r : Response),
    s.script = r :: rest → r = .ok ∨ r = .fail →
    (s.cause = 0x0 → exec .sClose s = .next { s with
      script := rest, trace := s.trace ++ [⟨.closeCh, r⟩], link := false,
      closeErr := decide (r = .fail),
      reports := s.reports ++ [⟨.success, 0x0, decide (r = .fail)⟩], state := Code.sDone }) ∧
    (s.cause ≠ 0x0 → exec .sClose s = .next { s with
      script := rest, trace := s.trace ++ [⟨.closeCh, r⟩], link := false,
      closeErr := decide (r = .fail),
      reports := s.reports ++ [⟨.fatal, s.cause, decide (r = .fail)⟩],
      state := Code.sAborted })

/-- R83: `STATE` = 0xF stops with `ILLEGAL_STATE`, no other code does, and no step writes it. -/
def Obligations.ReservedStateFaults : Prop :=
  decode (.state4 0xF) = .reservedState0xF ∧
  ∀ s : State, exec .reservedState0xF s = .fault .illegalState ∧
    (s.host = [] → (step s = .fault .illegalState ↔ s.state = 0xF)) ∧
    (∀ t, step s = .next t → t.state ≠ 0xF)

/-! ## The failure paths -/

/-- R224: the fatal path, with and without the handle; with it, the one step more that closes and
halts, whatever the close answers, with the cause kept (R228). -/
def Obligations.FatalPath : Prop :=
  ∀ (s : State) (c : FatalCause),
    (s.link = true → s.raiseFatal c = { s with cause := c.code, state := Code.sClose }) ∧
    (s.link = false → s.raiseFatal c = { s with
      cause := c.code, state := Code.sAborted,
      reports := s.reports ++ [⟨.fatal, c.code, false⟩] }) ∧
    (∀ r rest, s.link = true → s.script = r :: rest → r = .ok ∨ r = .fail →
      exec .sClose (s.raiseFatal c) = .next { s with
        cause := c.code, state := Code.sAborted, link := false, closeErr := decide (r = .fail),
        reports := s.reports ++ [⟨.fatal, c.code, decide (r = .fail)⟩],
        script := rest, trace := s.trace ++ [⟨.closeCh, r⟩] })

/-- R226, R228: the soft path, and its return, which restores nothing. -/
def Obligations.SoftPathAndReturn : Prop :=
  ∀ (s : State) (c : SoftCause),
    s.raiseSoft c = { s with cause := c.code, state := Code.sFailed } ∧
    exec .sFailed (s.raiseSoft c) = .next { s with
      cause := c.code, state := Code.sWaitHb, reports := s.reports ++ [⟨.fail, c.code, false⟩] }

/-- R221: a step that puts a cause into `CAUSE` writes besides only `STATE`, `RETRY` in `S_SEND`, and
the report log where no handle is held; the rest that changes is the environment's. -/
def Obligations.FailuresArePrecise : Prop :=
  ∀ (i : Instr) (s t : State), exec i s = .next t → t.cause ≠ s.cause → t.cause ≠ noCause →
    t = { s with
      cause := t.cause, state := t.state, retry := t.retry, reports := t.reports,
      imgPos := t.imgPos, script := t.script, later := t.later, trace := t.trace } ∧
    (t.retry ≠ s.retry → i = .sSend) ∧
    (t.reports ≠ s.reports → s.link = false ∧
      t.reports = s.reports ++ [⟨.fatal, t.cause, false⟩])

/-- R225: in Preserve mode, from the heartbeat wait on, no step raises a fatal cause. -/
def Obligations.NoFatalAfterHeartbeat : Prop :=
  ∀ (i : Instr) (s t : State), exec i s = .next t → s.cfg.check = false →
    i ≠ .sOpen → i ≠ .sConfig → i ≠ .sGolive → i ≠ .sStart →
    isFatalCode t.cause → t.cause = s.cause

/-! ## Requests, waits and stops -/

/-- R93, R53 to R63: a transport request whose next answer is outside its response set is refused, and
the set is the one the spec lists, a MSG's fields being legal as log entry 3 reads R50 and R61. -/
def Obligations.IllegalResponseRefused : Prop :=
  ∀ (s : State) (req : Request) (r : Response) (rest : List Response),
    s.host = [] → s.request = some req → req.toTransport = true → s.supplied.script = r :: rest →
    (req.allows s.params r = false → step s = .refused .illegalResponse) ∧
    (req.allows s.params r = true ↔
      match req with
      | .recv _ => r = .fail ∨ ∃ id dlc data, r = .msg id dlc data ∧ id < 2 ^ s.params.idW ∧
          dlc ≤ 8 ∧ data.length = dlc
      | .flush => r = .done
      | _ => r = .ok ∨ r = .fail)

/-- R55, I5: the transport's answers are taken in order, the listed ones first, and then as `later`
says: none, the same ones over and over, or the free draws one after the other. A request for which an
answer is to come runs as if that answer had been listed, so every statement about a listed answer is
one about every answer. How the draws are held is the model's choice (log entry 1). -/
def Obligations.AnswersTakenInOrder : Prop :=
  ∀ s : State,
    (s.script ≠ [] → s.supplied = s) ∧
    (s.later = .silent → s.supplied = s) ∧
    (∀ r more, s.script = [] → s.later = .cycle r more →
      s.supplied = { s with script := r :: more }) ∧
    (∀ n, s.script = [] → s.later = .free n → Config.freeAnswer n = none → s.supplied = s) ∧
    (∀ n r, s.script = [] → s.later = .free n → Config.freeAnswer n = some r →
      s.supplied = { s with script := [r], later := .free (n + 1) }) ∧
    (∀ req, s.host = [] → s.request = some req → req.toTransport = true →
      s.supplied.script ≠ [] → step s = step s.supplied)

/-- R55, R266: a transport request that is never answered leaves the block in that step for ever. That
waiting is a step which changes nothing is the model's form of the hang (log entry 2). -/
def Obligations.UnansweredRequestHangs : Prop :=
  ∀ (s : State) (req : Request) (k : Nat),
    s.host = [] → s.supplied.script = [] → s.request = some req → req.toTransport = true →
    Host.Core.run Sys2Proof.core k s = .next s

/-- R205, R206, R252: the two halted operations change nothing, and a halted block stays as it is,
however many steps the host stays idle. That it takes steps which change nothing is the model's reading
(log entry 9). -/
def Obligations.HaltedUntilReset : Prop :=
  decode (.state4 0xD) = .sDone ∧ decode (.state4 0xE) = .sAborted ∧
  (∀ s : State, exec .sDone s = .next s ∧ exec .sAborted s = .next s) ∧
  ∀ (s : State) (k : Nat), s.host = [] → s.state = Code.sDone ∨ s.state = Code.sAborted →
    Host.Core.run Sys2Proof.core k s = .next s

/-- R83, R93: the two grounds on which a step gives no next state, and no others. A waiting or halted
block has a next state here, the same one (log entries 2 and 9). -/
def Obligations.StopsOnlyOnReservedOrIllegal : Prop :=
  ∀ s : State, s.host = [] →
    (∃ t, step s = .next t) ∨
    (step s = .fault .illegalState ∧ s.state = Code.reserved) ∨
    (step s = .refused .illegalResponse ∧ ∃ req r rest, s.request = some req ∧
      req.toTransport = true ∧ s.supplied.script = r :: rest ∧
      req.allows s.params r = false)

/-- R6, R70, R82: a step that is no reset issues at most one request, the one R82's table gives the
state, records it last with its answer, and the answer is one the request allows. -/
def Obligations.StepIssuesTableRequest : Prop :=
  ∀ s t : State, s.host = [] → step s = .next t →
    t.trace = s.trace ∨ ∃ req r, s.request = some req ∧ req.allows s.params r = true ∧
      t.trace = s.trace ++ [⟨req, r⟩]

/-! ## Frames over all operations -/

/-- R8, R52, R70, R96, R256: no operation changes the image, the parameters, the configuration inputs
or the host's moves; the transport's answers are consumed at most one at a time and in order; the
trace and the report log only grow, by at most one entry. -/
def Obligations.EnvironmentFrame : Prop :=
  ∀ (i : Instr) (s t : State), exec i s = .next t →
    (∀ a : Nat, t.image[a]? = s.image[a]?) ∧ t.params = s.params ∧ t.cfg = s.cfg ∧
    t.host = s.host ∧
    ((t.script = s.script ∧ t.later = s.later) ∨
      ∃ r, s.supplied.script = r :: t.script ∧ t.later = s.supplied.later) ∧
    (t.trace = s.trace ∨ ∃ e, t.trace = s.trace ++ [e]) ∧
    (t.reports = s.reports ∨ ∃ r, t.reports = s.reports ++ [r])

/-- R23 to R30, with the "raised by" column of R90: the only operations that change each register other
than `STATE`, with the condition under which they do. -/
def Obligations.RegisterWriters : Prop :=
  ∀ (i : Instr) (s t : State), exec i s = .next t →
    (t.cnt ≠ s.cnt → i = .sRewind ∨ i = .sSend) ∧
    (t.nib0 ≠ s.nib0 → takesNibble i s ∧ s.nibCnt = 0) ∧
    (t.nib1 ≠ s.nib1 → takesNibble i s ∧ s.nibCnt = 1) ∧
    (t.nib2 ≠ s.nib2 → takesNibble i s ∧ s.nibCnt = 2) ∧
    (t.frame ≠ s.frame → takesNibble i s ∧ s.nibCnt = 3) ∧
    (t.nibCnt ≠ s.nibCnt →
      i = .sRewind ∨ takesNibble i s ∨ (i = .sFetch ∧ s.image.length ≤ s.imgPos)) ∧
    (t.retry ≠ s.retry → i = .sRewind ∨ i = .sSend ∨ (takesNibble i s ∧ s.nibCnt = 3)) ∧
    (t.cause ≠ s.cause →
      (i = .sOpen ∧ t.cause = 0x1) ∨ (i = .sConfig ∧ t.cause = 0x2) ∨
      (i = .sGolive ∧ t.cause = 0x3) ∨ (i = .sStart ∧ (t.cause = 0x4 ∨ t.cause = 0x5)) ∨
      (takesNibble i s ∧ s.cfg.check = true ∧ t.cause = 0x6) ∨
      (i = .sSend ∧ t.cause = 0xB) ∨ (i = .sAckWait ∧ t.cause = 0x8) ∨
      (i = .sAckRead ∧ (t.cause = 0x0 ∨ t.cause = 0x9 ∨ t.cause = 0xA))) ∧
    (t.link ≠ s.link → (i = .sOpen ∧ t.link = true) ∨ (i = .sClose ∧ t.link = false)) ∧
    (t.closeErr ≠ s.closeErr → i = .sClose)

/-! ## Invariants -/

/-- R34, R35: every invariant of Safety.lean holds in the reset state and after every reset. -/
def Obligations.InvariantsHoldAtReset : Prop :=
  ∀ t : State, t = State.reset ∨ (∃ s cfg image sc l, t = State.hostReset s cfg image sc l) →
    t.Inv ∧ t.ReportInv ∧ t.OrderInv ∧ t.ResendInv ∧ t.SetupInv ∧ t.HandshakeInv ∧ t.AckInv

/-- R35, R91, R20: every step keeps the register invariants, the width of `CNT` among them. -/
def Obligations.RegisterInvariantKept : Prop :=
  ∀ s t : State, s.Inv → step s = .next t → t.Inv

/-- R96: every step keeps the report log well formed: only possible reports, and the run's end
reported exactly once. -/
def Obligations.ReportLogKept : Prop :=
  ∀ s t : State, s.Inv → s.ReportInv → step s = .next t → t.ReportInv

/-- R187, R185: every step keeps the data frames numbered 1, 2, 3, ... from `CNT_INIT` in issue order,
starting again in every phase, modulo 2^16 in CBPE-1; for another `CNT_W` by log entry 4. -/
def Obligations.RecordNumberingKept : Prop :=
  ∀ s t : State, s.OrderInv → step s = .next t → t.OrderInv

/-- R184, R187: every step keeps it so that a failed data frame is only ever followed by itself. -/
def Obligations.IdenticalResendKept : Prop :=
  ∀ s t : State, s.ResendInv → step s = .next t → t.ResendInv

/-- R166 (b), (d), R63: every step keeps one opening, at most one start command, and nothing after a
close. -/
def Obligations.SingleSetupKept : Prop :=
  ∀ s t : State, s.SetupInv → step s = .next t → t.SetupInv

/-- R166 (c): every step keeps a heartbeat and a flush right before each Streaming phase. -/
def Obligations.HeartbeatBeforeStreamKept : Prop :=
  ∀ s t : State, s.HandshakeInv → step s = .next t → t.HandshakeInv

/-- R208 (c): every step keeps it so that a run is done only after an accepted acknowledgement. -/
def Obligations.DoneNeedsAckKept : Prop :=
  ∀ s t : State, s.AckInv → step s = .next t → t.AckInv

/-- R36: no step reads a streaming register holding a value that was not written in the current
attempt: states that agree but for dead registers step alike. -/
def Obligations.DeadRegistersUnread : Prop :=
  ∀ s t : State, AgreeLive s t →
    (∀ s', step s = .next s' → ∃ t', step t = .next t' ∧ AgreeLive s' t') ∧
    (∀ f, step s = .fault f → step t = .fault f) ∧
    (∀ r, step s = .refused r → step t = .refused r)

/-! ## Whole phases and runs -/

/-- R126, R143, R188: a Streaming phase that runs to END sends one frame for each complete group of
four nibbles, numbered from `CNT_INIT` (modulo 2^16 in CBPE-1; for another `CNT_W` by log entry 4),
each frame until it is accepted, and nothing else; the trailing partial group is dropped. -/
def Obligations.StreamingSendsEveryRecord : Prop :=
  ∀ (s : State) (fails : List Nat) (rest : List Response),
    s.state = Code.sRewind → s.host = [] → acceptable s →
    fails.length = (nibbles s.params s.image).length / 4 →
    (∀ n ∈ fails, s.cfg.retryLimit = 0 ∨ n < s.cfg.retryLimit.toNat) →
    s.script = answersFor fails ++ rest →
    ∃ (k : Nat) (t : State) (es : List Exchange),
      Host.Core.run Sys2Proof.core k s = .next t ∧
      t.state = Code.sAckWait ∧ t.nibCnt = 0 ∧ t.script = rest ∧ t.cause = s.cause ∧
      t.reports = s.reports ∧ t.link = s.link ∧ t.trace = s.trace ++ es ∧
      sendsOf es =
        sendsFor s.params (framesFrom s.params s.params.cntInit (nibbles s.params s.image)) fails

/-- R186: with a limit L set, the L-th consecutive failure of a frame ends the attempt, and no earlier
one does. -/
def Obligations.RetryLimitEndsAttempt : Prop :=
  ∀ (s : State) (rest : List Response) (k : Nat),
    s.state = Code.sSend → s.host = [] → s.retry = 0 → s.cfg.retryLimit ≠ 0 →
    s.script = List.replicate s.cfg.retryLimit.toNat .fail ++ rest →
    k ≤ s.cfg.retryLimit.toNat →
    ∃ t, Host.Core.run Sys2Proof.core k s = .next t ∧ t.retry = BitVec.ofNat 32 k ∧
      t.frame = s.frame ∧ t.cnt = s.cnt ∧
      (k < s.cfg.retryLimit.toNat → t.state = Code.sSend ∧ t.cause = s.cause) ∧
      (k = s.cfg.retryLimit.toNat → t.state = Code.sFailed ∧ t.cause = 0xB ∧ t.script = rest)

/-- R186, R188, R266: with no limit set, failures alone never end the attempt: after any number of
them the block is still resending the same frame, with no cause and no report. -/
def Obligations.UnboundedResendNeverGivesUp : Prop :=
  ∀ (s : State) (rest : List Response) (k : Nat),
    s.state = Code.sSend → s.host = [] → s.cfg.retryLimit = 0 →
    s.script = List.replicate k .fail ++ rest →
    ∃ t, Host.Core.run Sys2Proof.core k s = .next t ∧ t.state = Code.sSend ∧
      t.frame = s.frame ∧ t.cnt = s.cnt ∧ t.cause = s.cause ∧ t.reports = s.reports ∧
      t.script = rest ∧
      t.trace = s.trace ++ List.replicate k ⟨frameMessage s.params s.frame, .fail⟩

/-- R207, R266: runs that never end. With the heartbeat receive failing for ever the block stays in
`S_WAIT_HB`; with every send failing and no limit set it stays in `S_SEND`; with every attempt failing,
here each at its acknowledgement, it goes round the attempts without end, one FAIL report each. -/
def Obligations.RunsThatNeverEnd : Prop :=
  ∀ s : State, s.host = [] → s.script = [] →
    (s.state = Code.sWaitHb → s.later = .cycle .fail [] → ∀ k : Nat,
      Host.Core.run Sys2Proof.core k s = .next { s with
        trace := s.trace ++ List.replicate k ⟨.recvMatch s.params.hbId s.params.tHb, .fail⟩ }) ∧
    (s.state = Code.sSend → s.cfg.retryLimit = 0 → s.later = .cycle .fail [] → ∀ k : Nat,
      ∃ r, Host.Core.run Sys2Proof.core k s = .next { s with
        retry := r, trace := s.trace ++ List.replicate k ⟨frameMessage s.params s.frame, .fail⟩ }) ∧
    (∀ fails : List Nat, s.state = Code.sWaitHb → acceptable s →
      fails.length = (nibbles s.params s.image).length / 4 →
      (∀ n ∈ fails, s.cfg.retryLimit = 0 ∨ n < s.cfg.retryLimit.toNat) →
      s.later = .cycle .ok (.done :: (answersFor fails ++ [.fail])) →
      (∀ m : Nat, ∃ (k : Nat) (t : State),
        Host.Core.run Sys2Proof.core k s = .next t ∧ t.state = Code.sWaitHb ∧ t.link = s.link ∧
        t.script = [] ∧ t.later = s.later ∧
        t.reports = s.reports ++ List.replicate m ⟨.fail, 0x8, false⟩) ∧
      (∀ k : Nat, ∃ t, Host.Core.run Sys2Proof.core k s = .next t ∧ t.terminal = false))

/-- R207: where a run that never ends stays. Either from some step on the block is always in `S_WAIT_HB`,
or always in `S_SEND`, or its request is never answered and nothing changes any more (log entry 2), or
it fails attempt after attempt, coming to `S_FAILED` again and again. -/
def Obligations.EndlessRunStays : Prop :=
  ∀ (s : State) (run : Nat → State), s.host = [] →
    (∀ k, Host.Core.run Sys2Proof.core k s = .next (run k) ∧ (run k).terminal = false) →
    (∃ n, ∀ k ≥ n, (run k).state = Code.sWaitHb) ∨
    (∃ n, ∀ k ≥ n, (run k).state = Code.sSend) ∨
    (∃ n, ∀ k ≥ n, run k = run n) ∨
    (∀ n, ∃ k ≥ n, (run k).state = Code.sFailed)

/-- R268: a run from the heartbeat wait ends in `S_DONE`, reported once, under the premises on the
transport that R268 lists: a heartbeat, the flush, each frame accepted in the end, the
acknowledgement pair, and an answer to the close. -/
def Obligations.RunReachesDone : Prop :=
  ∀ (s : State) (fails : List Nat) (id dlc : Nat) (data : List Byte) (r : Response)
    (rest : List Response),
    s.state = Code.sWaitHb → s.host = [] → acceptable s →
    fails.length = (nibbles s.params s.image).length / 4 →
    (∀ n ∈ fails, s.cfg.retryLimit = 0 ∨ n < s.cfg.retryLimit.toNat) →
    id < 2 ^ s.params.idW → dlc ≤ 8 → data.length = dlc →
    data[s.params.ackIndex]? = some s.params.ackValue → r = .ok ∨ r = .fail →
    s.script = .ok :: .done :: (answersFor fails ++ .ok :: .msg id dlc data :: r :: rest) →
    ∃ (k : Nat) (t : State),
      Host.Core.run Sys2Proof.core k s = .next t ∧ t.state = Code.sDone ∧ t.script = rest ∧
      t.cause = noCause ∧ t.link = false ∧ t.closeErr = decide (r = .fail) ∧
      t.reports = s.reports ++ [⟨.success, noCause, decide (r = .fail)⟩]
end

