-- ==== Sys2Proof/Laws/Flags.lean ====
section
/-! SUPPORT. The composed words as numbers: one lemma each for the frame, the report byte and
`STATUS`, from which every field is arithmetic. -/

namespace Sys2Proof.Machine

/-- A composed frame as a number (R140). -/
theorem compose_toNat (cnt : Count) (d1 d2 : Byte) :
    (compose cnt d1 d2).toNat = cnt.toNat * 2 ^ 16 + d1.toNat * 2 ^ 8 + d2.toNat := by
  have h1 := cnt.isLt
  have h2 := d1.isLt
  have h3 := d2.isLt
  simp only [compose, BitVec.toNat_append, BitVec.extractLsb'_toNat, Nat.shiftRight_eq_div_pow]
  rw [← Nat.shiftLeft_add_eq_or_of_lt (by omega), ← Nat.shiftLeft_add_eq_or_of_lt (by omega),
    ← Nat.shiftLeft_add_eq_or_of_lt (by omega)]
  simp only [Nat.shiftLeft_eq]
  omega

/-- The counter of a composed frame (R140, R84). -/
theorem compose_counter (cnt : Count) (d1 d2 : Byte) :
    (compose cnt d1 d2).extractLsb' 16 16 = cnt := by
  have h1 := cnt.isLt
  have h2 := d1.isLt
  have h3 := d2.isLt
  apply BitVec.eq_of_toNat_eq
  simp only [BitVec.extractLsb'_toNat, compose_toNat, Nat.shiftRight_eq_div_pow]
  omega

/-- The `STATUS` word as a number (R32). -/
theorem State.status_toNat (s : State) :
    s.status.toNat = (countField s.cnt).toNat * 2 ^ 16 + s.nibCnt.toNat * 2 ^ 12 + s.success.toNat * 2 ^ 11 +
      s.terminal.toNat * 2 ^ 10 + s.closeErr.toNat * 2 ^ 9 + s.link.toNat * 2 ^ 8 +
      s.cause.toNat * 2 ^ 4 + s.state.toNat := by
  have h1 := (countField s.cnt).isLt
  have h2 := s.nibCnt.isLt
  have h3 := s.cause.isLt
  have h4 := s.state.isLt
  have b1 := s.success.toNat_lt
  have b2 := s.terminal.toNat_lt
  have b3 := s.closeErr.toNat_lt
  have b4 := s.link.toNat_lt
  simp only [State.status, BitVec.toNat_append, BitVec.toNat_ofBool, BitVec.toNat_ofNat]
  rw [← Nat.shiftLeft_add_eq_or_of_lt (by omega), ← Nat.shiftLeft_add_eq_or_of_lt (by omega),
    ← Nat.shiftLeft_add_eq_or_of_lt (by omega), ← Nat.shiftLeft_add_eq_or_of_lt (by omega),
    ← Nat.shiftLeft_add_eq_or_of_lt (by omega), ← Nat.shiftLeft_add_eq_or_of_lt (by omega),
    ← Nat.shiftLeft_add_eq_or_of_lt (by omega), ← Nat.shiftLeft_add_eq_or_of_lt (by omega)]
  simp only [Nat.shiftLeft_eq]
  omega

end Sys2Proof.Machine
end

