-- ==== Sys2Proof/Laws/State.lean ====
section
/-! SUPPORT. One lemma per field per named update of the state, so that no later proof unfolds a record
update. -/

namespace Sys2Proof.Machine

variable (s : State)

/-! ### `State.answered` -/

@[simp] theorem State.answered_state (req : Request) (r : Response) (rest : List Response) :
    (s.answered req r rest).state = s.state := rfl
@[simp] theorem State.answered_cnt (req : Request) (r : Response) (rest : List Response) :
    (s.answered req r rest).cnt = s.cnt := rfl
@[simp] theorem State.answered_nib0 (req : Request) (r : Response) (rest : List Response) :
    (s.answered req r rest).nib0 = s.nib0 := rfl
@[simp] theorem State.answered_nib1 (req : Request) (r : Response) (rest : List Response) :
    (s.answered req r rest).nib1 = s.nib1 := rfl
@[simp] theorem State.answered_nib2 (req : Request) (r : Response) (rest : List Response) :
    (s.answered req r rest).nib2 = s.nib2 := rfl
@[simp] theorem State.answered_nibCnt (req : Request) (r : Response) (rest : List Response) :
    (s.answered req r rest).nibCnt = s.nibCnt := rfl
@[simp] theorem State.answered_frame (req : Request) (r : Response) (rest : List Response) :
    (s.answered req r rest).frame = s.frame := rfl
@[simp] theorem State.answered_retry (req : Request) (r : Response) (rest : List Response) :
    (s.answered req r rest).retry = s.retry := rfl
@[simp] theorem State.answered_cause (req : Request) (r : Response) (rest : List Response) :
    (s.answered req r rest).cause = s.cause := rfl
@[simp] theorem State.answered_link (req : Request) (r : Response) (rest : List Response) :
    (s.answered req r rest).link = s.link := rfl
@[simp] theorem State.answered_closeErr (req : Request) (r : Response) (rest : List Response) :
    (s.answered req r rest).closeErr = s.closeErr := rfl
@[simp] theorem State.answered_reports (req : Request) (r : Response) (rest : List Response) :
    (s.answered req r rest).reports = s.reports := rfl
@[simp] theorem State.answered_params (req : Request) (r : Response) (rest : List Response) :
    (s.answered req r rest).params = s.params := rfl
@[simp] theorem State.answered_cfg (req : Request) (r : Response) (rest : List Response) :
    (s.answered req r rest).cfg = s.cfg := rfl
@[simp] theorem State.answered_image (req : Request) (r : Response) (rest : List Response) :
    (s.answered req r rest).image = s.image := rfl
@[simp] theorem State.answered_imgPos (req : Request) (r : Response) (rest : List Response) :
    (s.answered req r rest).imgPos = s.imgPos := rfl
@[simp] theorem State.answered_script (req : Request) (r : Response) (rest : List Response) :
    (s.answered req r rest).script = rest := rfl
@[simp] theorem State.answered_later (req : Request) (r : Response) (rest : List Response) :
    (s.answered req r rest).later = s.later := rfl
@[simp] theorem State.answered_host (req : Request) (r : Response) (rest : List Response) :
    (s.answered req r rest).host = s.host := rfl
@[simp] theorem State.answered_trace (req : Request) (r : Response) (rest : List Response) :
    (s.answered req r rest).trace = s.trace ++ [⟨req, r⟩] := rfl

/-! ### `State.supplied` -/

@[simp] theorem State.supplied_state :
    s.supplied.state = s.state := rfl
@[simp] theorem State.supplied_cnt :
    s.supplied.cnt = s.cnt := rfl
@[simp] theorem State.supplied_nib0 :
    s.supplied.nib0 = s.nib0 := rfl
@[simp] theorem State.supplied_nib1 :
    s.supplied.nib1 = s.nib1 := rfl
@[simp] theorem State.supplied_nib2 :
    s.supplied.nib2 = s.nib2 := rfl
@[simp] theorem State.supplied_nibCnt :
    s.supplied.nibCnt = s.nibCnt := rfl
@[simp] theorem State.supplied_frame :
    s.supplied.frame = s.frame := rfl
@[simp] theorem State.supplied_retry :
    s.supplied.retry = s.retry := rfl
@[simp] theorem State.supplied_cause :
    s.supplied.cause = s.cause := rfl
@[simp] theorem State.supplied_link :
    s.supplied.link = s.link := rfl
@[simp] theorem State.supplied_closeErr :
    s.supplied.closeErr = s.closeErr := rfl
@[simp] theorem State.supplied_reports :
    s.supplied.reports = s.reports := rfl
@[simp] theorem State.supplied_params :
    s.supplied.params = s.params := rfl
@[simp] theorem State.supplied_cfg :
    s.supplied.cfg = s.cfg := rfl
@[simp] theorem State.supplied_image :
    s.supplied.image = s.image := rfl
@[simp] theorem State.supplied_imgPos :
    s.supplied.imgPos = s.imgPos := rfl
@[simp] theorem State.supplied_host :
    s.supplied.host = s.host := rfl
@[simp] theorem State.supplied_trace :
    s.supplied.trace = s.trace := rfl

variable {s} in
/-- What is supplied is what stands at the front. -/
theorem State.supplied_of_front {sc : List Response} {l : Later} (h : s.front = (sc, l)) :
    s.supplied = { s with script := sc, later := l } := by
  simp [State.supplied, h]

variable {s} in
/-- Listed answers come first. -/
theorem State.supplied_listed (h : s.script ≠ []) : s.supplied = s := by
  refine State.supplied_of_front (sc := s.script) (l := s.later) ?_
  unfold State.front
  split
  · exact absurd ‹_› h
  · exact absurd ‹_› h
  · rfl

variable {s} in
/-- A silent transport adds nothing. -/
theorem State.supplied_silent (h : s.later = .silent) : s.supplied = s :=
  State.supplied_of_front (sc := s.script) (l := s.later) (by simp [State.front, h])

variable {s} in
/-- A repeating transport begins its answers again. -/
theorem State.supplied_cycle {r : Response} {more : List Response} (hs : s.script = [])
    (h : s.later = .cycle r more) : s.supplied = { s with script := r :: more } :=
  State.supplied_of_front (l := s.later) (by simp [State.front, hs, h])

variable {s} in
/-- A free draw is taken once. -/
theorem State.supplied_free {n : Nat} {r : Response} (hs : s.script = []) (h : s.later = .free n)
    (hr : Config.freeAnswer n = some r) :
    s.supplied = { s with script := [r], later := .free (n + 1) } :=
  State.supplied_of_front (by simp [State.front, hs, h, hr])

variable {s} in
/-- A free draw that never comes leaves the state. -/
theorem State.supplied_never {n : Nat} (hs : s.script = []) (h : s.later = .free n)
    (hr : Config.freeAnswer n = none) : s.supplied = s :=
  State.supplied_of_front (sc := s.script) (l := s.later) (by simp [State.front, hs, h, hr])

variable {s} in
/-- With no answer to come nothing is supplied. -/
theorem State.supplied_none (h : s.supplied.script = []) : s.supplied = s := by
  rcases hs : s.script with _ | ⟨r, rest⟩
  · rcases hl : s.later with _ | ⟨r, more⟩ | n
    · exact State.supplied_silent hl
    · simp [State.supplied_cycle hs hl] at h
    · rcases hr : Config.freeAnswer n with _ | r
      · exact State.supplied_never hs hl hr
      · simp [State.supplied_free hs hl hr] at h
  · exact State.supplied_listed (by simp [hs])

/-- Supplying twice is supplying once. -/
@[simp] theorem State.supplied_supplied : s.supplied.supplied = s.supplied := by
  by_cases h : s.supplied.script = []
  · rw [State.supplied_none h, State.supplied_none h]
  · exact State.supplied_listed h

/-! ### `State.imgByte` -/

@[simp] theorem State.imgByte_state (b : Byte) :
    (s.imgByte b).state = s.state := rfl
@[simp] theorem State.imgByte_cnt (b : Byte) :
    (s.imgByte b).cnt = s.cnt := rfl
@[simp] theorem State.imgByte_nib0 (b : Byte) :
    (s.imgByte b).nib0 = s.nib0 := rfl
@[simp] theorem State.imgByte_nib1 (b : Byte) :
    (s.imgByte b).nib1 = s.nib1 := rfl
@[simp] theorem State.imgByte_nib2 (b : Byte) :
    (s.imgByte b).nib2 = s.nib2 := rfl
@[simp] theorem State.imgByte_nibCnt (b : Byte) :
    (s.imgByte b).nibCnt = s.nibCnt := rfl
@[simp] theorem State.imgByte_frame (b : Byte) :
    (s.imgByte b).frame = s.frame := rfl
@[simp] theorem State.imgByte_retry (b : Byte) :
    (s.imgByte b).retry = s.retry := rfl
@[simp] theorem State.imgByte_cause (b : Byte) :
    (s.imgByte b).cause = s.cause := rfl
@[simp] theorem State.imgByte_link (b : Byte) :
    (s.imgByte b).link = s.link := rfl
@[simp] theorem State.imgByte_closeErr (b : Byte) :
    (s.imgByte b).closeErr = s.closeErr := rfl
@[simp] theorem State.imgByte_reports (b : Byte) :
    (s.imgByte b).reports = s.reports := rfl
@[simp] theorem State.imgByte_params (b : Byte) :
    (s.imgByte b).params = s.params := rfl
@[simp] theorem State.imgByte_cfg (b : Byte) :
    (s.imgByte b).cfg = s.cfg := rfl
@[simp] theorem State.imgByte_image (b : Byte) :
    (s.imgByte b).image = s.image := rfl
@[simp] theorem State.imgByte_imgPos (b : Byte) :
    (s.imgByte b).imgPos = s.imgPos + 1 := rfl
@[simp] theorem State.imgByte_script (b : Byte) :
    (s.imgByte b).script = s.script := rfl
@[simp] theorem State.imgByte_later (b : Byte) :
    (s.imgByte b).later = s.later := rfl
@[simp] theorem State.imgByte_host (b : Byte) :
    (s.imgByte b).host = s.host := rfl
@[simp] theorem State.imgByte_trace (b : Byte) :
    (s.imgByte b).trace = s.trace ++ [⟨.imgNext, .byte b⟩] := rfl

/-! ### `State.imgEnded` -/

@[simp] theorem State.imgEnded_state :
    s.imgEnded.state = s.state := rfl
@[simp] theorem State.imgEnded_cnt :
    s.imgEnded.cnt = s.cnt := rfl
@[simp] theorem State.imgEnded_nib0 :
    s.imgEnded.nib0 = s.nib0 := rfl
@[simp] theorem State.imgEnded_nib1 :
    s.imgEnded.nib1 = s.nib1 := rfl
@[simp] theorem State.imgEnded_nib2 :
    s.imgEnded.nib2 = s.nib2 := rfl
@[simp] theorem State.imgEnded_nibCnt :
    s.imgEnded.nibCnt = s.nibCnt := rfl
@[simp] theorem State.imgEnded_frame :
    s.imgEnded.frame = s.frame := rfl
@[simp] theorem State.imgEnded_retry :
    s.imgEnded.retry = s.retry := rfl
@[simp] theorem State.imgEnded_cause :
    s.imgEnded.cause = s.cause := rfl
@[simp] theorem State.imgEnded_link :
    s.imgEnded.link = s.link := rfl
@[simp] theorem State.imgEnded_closeErr :
    s.imgEnded.closeErr = s.closeErr := rfl
@[simp] theorem State.imgEnded_reports :
    s.imgEnded.reports = s.reports := rfl
@[simp] theorem State.imgEnded_params :
    s.imgEnded.params = s.params := rfl
@[simp] theorem State.imgEnded_cfg :
    s.imgEnded.cfg = s.cfg := rfl
@[simp] theorem State.imgEnded_image :
    s.imgEnded.image = s.image := rfl
@[simp] theorem State.imgEnded_imgPos :
    s.imgEnded.imgPos = s.imgPos := rfl
@[simp] theorem State.imgEnded_script :
    s.imgEnded.script = s.script := rfl
@[simp] theorem State.imgEnded_later :
    s.imgEnded.later = s.later := rfl
@[simp] theorem State.imgEnded_host :
    s.imgEnded.host = s.host := rfl
@[simp] theorem State.imgEnded_trace :
    s.imgEnded.trace = s.trace ++ [⟨.imgNext, .imgEnd⟩] := rfl

/-! ### `State.imgRewound` -/

@[simp] theorem State.imgRewound_state :
    s.imgRewound.state = s.state := rfl
@[simp] theorem State.imgRewound_cnt :
    s.imgRewound.cnt = s.cnt := rfl
@[simp] theorem State.imgRewound_nib0 :
    s.imgRewound.nib0 = s.nib0 := rfl
@[simp] theorem State.imgRewound_nib1 :
    s.imgRewound.nib1 = s.nib1 := rfl
@[simp] theorem State.imgRewound_nib2 :
    s.imgRewound.nib2 = s.nib2 := rfl
@[simp] theorem State.imgRewound_nibCnt :
    s.imgRewound.nibCnt = s.nibCnt := rfl
@[simp] theorem State.imgRewound_frame :
    s.imgRewound.frame = s.frame := rfl
@[simp] theorem State.imgRewound_retry :
    s.imgRewound.retry = s.retry := rfl
@[simp] theorem State.imgRewound_cause :
    s.imgRewound.cause = s.cause := rfl
@[simp] theorem State.imgRewound_link :
    s.imgRewound.link = s.link := rfl
@[simp] theorem State.imgRewound_closeErr :
    s.imgRewound.closeErr = s.closeErr := rfl
@[simp] theorem State.imgRewound_reports :
    s.imgRewound.reports = s.reports := rfl
@[simp] theorem State.imgRewound_params :
    s.imgRewound.params = s.params := rfl
@[simp] theorem State.imgRewound_cfg :
    s.imgRewound.cfg = s.cfg := rfl
@[simp] theorem State.imgRewound_image :
    s.imgRewound.image = s.image := rfl
@[simp] theorem State.imgRewound_imgPos :
    s.imgRewound.imgPos = 0 := rfl
@[simp] theorem State.imgRewound_script :
    s.imgRewound.script = s.script := rfl
@[simp] theorem State.imgRewound_later :
    s.imgRewound.later = s.later := rfl
@[simp] theorem State.imgRewound_host :
    s.imgRewound.host = s.host := rfl
@[simp] theorem State.imgRewound_trace :
    s.imgRewound.trace = s.trace ++ [⟨.imgRewind, .done⟩] := rfl

/-! ### `State.emit` -/

@[simp] theorem State.emit_state (k : ReportKind) (c : CauseCode) (e : Bool) :
    (s.emit k c e).state = s.state := rfl
@[simp] theorem State.emit_cnt (k : ReportKind) (c : CauseCode) (e : Bool) :
    (s.emit k c e).cnt = s.cnt := rfl
@[simp] theorem State.emit_nib0 (k : ReportKind) (c : CauseCode) (e : Bool) :
    (s.emit k c e).nib0 = s.nib0 := rfl
@[simp] theorem State.emit_nib1 (k : ReportKind) (c : CauseCode) (e : Bool) :
    (s.emit k c e).nib1 = s.nib1 := rfl
@[simp] theorem State.emit_nib2 (k : ReportKind) (c : CauseCode) (e : Bool) :
    (s.emit k c e).nib2 = s.nib2 := rfl
@[simp] theorem State.emit_nibCnt (k : ReportKind) (c : CauseCode) (e : Bool) :
    (s.emit k c e).nibCnt = s.nibCnt := rfl
@[simp] theorem State.emit_frame (k : ReportKind) (c : CauseCode) (e : Bool) :
    (s.emit k c e).frame = s.frame := rfl
@[simp] theorem State.emit_retry (k : ReportKind) (c : CauseCode) (e : Bool) :
    (s.emit k c e).retry = s.retry := rfl
@[simp] theorem State.emit_cause (k : ReportKind) (c : CauseCode) (e : Bool) :
    (s.emit k c e).cause = s.cause := rfl
@[simp] theorem State.emit_link (k : ReportKind) (c : CauseCode) (e : Bool) :
    (s.emit k c e).link = s.link := rfl
@[simp] theorem State.emit_closeErr (k : ReportKind) (c : CauseCode) (e : Bool) :
    (s.emit k c e).closeErr = s.closeErr := rfl
@[simp] theorem State.emit_reports (k : ReportKind) (c : CauseCode) (e : Bool) :
    (s.emit k c e).reports = s.reports ++ [⟨k, c, e⟩] := rfl
@[simp] theorem State.emit_params (k : ReportKind) (c : CauseCode) (e : Bool) :
    (s.emit k c e).params = s.params := rfl
@[simp] theorem State.emit_cfg (k : ReportKind) (c : CauseCode) (e : Bool) :
    (s.emit k c e).cfg = s.cfg := rfl
@[simp] theorem State.emit_image (k : ReportKind) (c : CauseCode) (e : Bool) :
    (s.emit k c e).image = s.image := rfl
@[simp] theorem State.emit_imgPos (k : ReportKind) (c : CauseCode) (e : Bool) :
    (s.emit k c e).imgPos = s.imgPos := rfl
@[simp] theorem State.emit_script (k : ReportKind) (c : CauseCode) (e : Bool) :
    (s.emit k c e).script = s.script := rfl
@[simp] theorem State.emit_later (k : ReportKind) (c : CauseCode) (e : Bool) :
    (s.emit k c e).later = s.later := rfl
@[simp] theorem State.emit_host (k : ReportKind) (c : CauseCode) (e : Bool) :
    (s.emit k c e).host = s.host := rfl
@[simp] theorem State.emit_trace (k : ReportKind) (c : CauseCode) (e : Bool) :
    (s.emit k c e).trace = s.trace := rfl

/-! ### `State.raiseSoft` -/

@[simp] theorem State.raiseSoft_state (c : SoftCause) :
    (s.raiseSoft c).state = Code.sFailed := rfl
@[simp] theorem State.raiseSoft_cnt (c : SoftCause) :
    (s.raiseSoft c).cnt = s.cnt := rfl
@[simp] theorem State.raiseSoft_nib0 (c : SoftCause) :
    (s.raiseSoft c).nib0 = s.nib0 := rfl
@[simp] theorem State.raiseSoft_nib1 (c : SoftCause) :
    (s.raiseSoft c).nib1 = s.nib1 := rfl
@[simp] theorem State.raiseSoft_nib2 (c : SoftCause) :
    (s.raiseSoft c).nib2 = s.nib2 := rfl
@[simp] theorem State.raiseSoft_nibCnt (c : SoftCause) :
    (s.raiseSoft c).nibCnt = s.nibCnt := rfl
@[simp] theorem State.raiseSoft_frame (c : SoftCause) :
    (s.raiseSoft c).frame = s.frame := rfl
@[simp] theorem State.raiseSoft_retry (c : SoftCause) :
    (s.raiseSoft c).retry = s.retry := rfl
@[simp] theorem State.raiseSoft_cause (c : SoftCause) :
    (s.raiseSoft c).cause = c.code := rfl
@[simp] theorem State.raiseSoft_link (c : SoftCause) :
    (s.raiseSoft c).link = s.link := rfl
@[simp] theorem State.raiseSoft_closeErr (c : SoftCause) :
    (s.raiseSoft c).closeErr = s.closeErr := rfl
@[simp] theorem State.raiseSoft_reports (c : SoftCause) :
    (s.raiseSoft c).reports = s.reports := rfl
@[simp] theorem State.raiseSoft_params (c : SoftCause) :
    (s.raiseSoft c).params = s.params := rfl
@[simp] theorem State.raiseSoft_cfg (c : SoftCause) :
    (s.raiseSoft c).cfg = s.cfg := rfl
@[simp] theorem State.raiseSoft_image (c : SoftCause) :
    (s.raiseSoft c).image = s.image := rfl
@[simp] theorem State.raiseSoft_imgPos (c : SoftCause) :
    (s.raiseSoft c).imgPos = s.imgPos := rfl
@[simp] theorem State.raiseSoft_script (c : SoftCause) :
    (s.raiseSoft c).script = s.script := rfl
@[simp] theorem State.raiseSoft_later (c : SoftCause) :
    (s.raiseSoft c).later = s.later := rfl
@[simp] theorem State.raiseSoft_host (c : SoftCause) :
    (s.raiseSoft c).host = s.host := rfl
@[simp] theorem State.raiseSoft_trace (c : SoftCause) :
    (s.raiseSoft c).trace = s.trace := rfl

/-! ### `State.resumeAttempts` -/

@[simp] theorem State.resumeAttempts_state :
    s.resumeAttempts.state = Code.sWaitHb := rfl
@[simp] theorem State.resumeAttempts_cnt :
    s.resumeAttempts.cnt = s.cnt := rfl
@[simp] theorem State.resumeAttempts_nib0 :
    s.resumeAttempts.nib0 = s.nib0 := rfl
@[simp] theorem State.resumeAttempts_nib1 :
    s.resumeAttempts.nib1 = s.nib1 := rfl
@[simp] theorem State.resumeAttempts_nib2 :
    s.resumeAttempts.nib2 = s.nib2 := rfl
@[simp] theorem State.resumeAttempts_nibCnt :
    s.resumeAttempts.nibCnt = s.nibCnt := rfl
@[simp] theorem State.resumeAttempts_frame :
    s.resumeAttempts.frame = s.frame := rfl
@[simp] theorem State.resumeAttempts_retry :
    s.resumeAttempts.retry = s.retry := rfl
@[simp] theorem State.resumeAttempts_cause :
    s.resumeAttempts.cause = s.cause := rfl
@[simp] theorem State.resumeAttempts_link :
    s.resumeAttempts.link = s.link := rfl
@[simp] theorem State.resumeAttempts_closeErr :
    s.resumeAttempts.closeErr = s.closeErr := rfl
@[simp] theorem State.resumeAttempts_reports :
    s.resumeAttempts.reports = s.reports := rfl
@[simp] theorem State.resumeAttempts_params :
    s.resumeAttempts.params = s.params := rfl
@[simp] theorem State.resumeAttempts_cfg :
    s.resumeAttempts.cfg = s.cfg := rfl
@[simp] theorem State.resumeAttempts_image :
    s.resumeAttempts.image = s.image := rfl
@[simp] theorem State.resumeAttempts_imgPos :
    s.resumeAttempts.imgPos = s.imgPos := rfl
@[simp] theorem State.resumeAttempts_script :
    s.resumeAttempts.script = s.script := rfl
@[simp] theorem State.resumeAttempts_later :
    s.resumeAttempts.later = s.later := rfl
@[simp] theorem State.resumeAttempts_host :
    s.resumeAttempts.host = s.host := rfl
@[simp] theorem State.resumeAttempts_trace :
    s.resumeAttempts.trace = s.trace := rfl

/-! ### `State.hostReset` -/

@[simp] theorem State.hostReset_state (cfg : CfgInputs) (image : List Byte)
    (sc : List Response) (l : Later) :
    (s.hostReset cfg image sc l).state = Code.sOpen := rfl
@[simp] theorem State.hostReset_cnt (cfg : CfgInputs) (image : List Byte)
    (sc : List Response) (l : Later) :
    (s.hostReset cfg image sc l).cnt = 0 := rfl
@[simp] theorem State.hostReset_nib0 (cfg : CfgInputs) (image : List Byte)
    (sc : List Response) (l : Later) :
    (s.hostReset cfg image sc l).nib0 = 0 := rfl
@[simp] theorem State.hostReset_nib1 (cfg : CfgInputs) (image : List Byte)
    (sc : List Response) (l : Later) :
    (s.hostReset cfg image sc l).nib1 = 0 := rfl
@[simp] theorem State.hostReset_nib2 (cfg : CfgInputs) (image : List Byte)
    (sc : List Response) (l : Later) :
    (s.hostReset cfg image sc l).nib2 = 0 := rfl
@[simp] theorem State.hostReset_nibCnt (cfg : CfgInputs) (image : List Byte)
    (sc : List Response) (l : Later) :
    (s.hostReset cfg image sc l).nibCnt = 0 := rfl
@[simp] theorem State.hostReset_frame (cfg : CfgInputs) (image : List Byte)
    (sc : List Response) (l : Later) :
    (s.hostReset cfg image sc l).frame = 0 := rfl
@[simp] theorem State.hostReset_retry (cfg : CfgInputs) (image : List Byte)
    (sc : List Response) (l : Later) :
    (s.hostReset cfg image sc l).retry = 0 := rfl
@[simp] theorem State.hostReset_cause (cfg : CfgInputs) (image : List Byte)
    (sc : List Response) (l : Later) :
    (s.hostReset cfg image sc l).cause = noCause := rfl
@[simp] theorem State.hostReset_link (cfg : CfgInputs) (image : List Byte)
    (sc : List Response) (l : Later) :
    (s.hostReset cfg image sc l).link = false := rfl
@[simp] theorem State.hostReset_closeErr (cfg : CfgInputs) (image : List Byte)
    (sc : List Response) (l : Later) :
    (s.hostReset cfg image sc l).closeErr = false := rfl
@[simp] theorem State.hostReset_reports (cfg : CfgInputs) (image : List Byte)
    (sc : List Response) (l : Later) :
    (s.hostReset cfg image sc l).reports = [] := rfl
@[simp] theorem State.hostReset_params (cfg : CfgInputs) (image : List Byte)
    (sc : List Response) (l : Later) :
    (s.hostReset cfg image sc l).params = s.params := rfl
@[simp] theorem State.hostReset_cfg (cfg : CfgInputs) (image : List Byte)
    (sc : List Response) (l : Later) :
    (s.hostReset cfg image sc l).cfg = cfg := rfl
@[simp] theorem State.hostReset_image (cfg : CfgInputs) (image : List Byte)
    (sc : List Response) (l : Later) :
    (s.hostReset cfg image sc l).image = image := rfl
@[simp] theorem State.hostReset_imgPos (cfg : CfgInputs) (image : List Byte)
    (sc : List Response) (l : Later) :
    (s.hostReset cfg image sc l).imgPos = s.imgPos := rfl
@[simp] theorem State.hostReset_script (cfg : CfgInputs) (image : List Byte)
    (sc : List Response) (l : Later) :
    (s.hostReset cfg image sc l).script = sc := rfl
@[simp] theorem State.hostReset_later (cfg : CfgInputs) (image : List Byte)
    (sc : List Response) (l : Later) :
    (s.hostReset cfg image sc l).later = l := rfl
@[simp] theorem State.hostReset_host (cfg : CfgInputs) (image : List Byte)
    (sc : List Response) (l : Later) :
    (s.hostReset cfg image sc l).host = s.host := rfl
@[simp] theorem State.hostReset_trace (cfg : CfgInputs) (image : List Byte)
    (sc : List Response) (l : Later) :
    (s.hostReset cfg image sc l).trace = [] := rfl

/-! ### `State.raiseFatal` -/

@[simp] theorem State.raiseFatal_cnt (c : FatalCause) :
    (s.raiseFatal c).cnt = s.cnt := by
  unfold State.raiseFatal; split <;> rfl
@[simp] theorem State.raiseFatal_nib0 (c : FatalCause) :
    (s.raiseFatal c).nib0 = s.nib0 := by
  unfold State.raiseFatal; split <;> rfl
@[simp] theorem State.raiseFatal_nib1 (c : FatalCause) :
    (s.raiseFatal c).nib1 = s.nib1 := by
  unfold State.raiseFatal; split <;> rfl
@[simp] theorem State.raiseFatal_nib2 (c : FatalCause) :
    (s.raiseFatal c).nib2 = s.nib2 := by
  unfold State.raiseFatal; split <;> rfl
@[simp] theorem State.raiseFatal_nibCnt (c : FatalCause) :
    (s.raiseFatal c).nibCnt = s.nibCnt := by
  unfold State.raiseFatal; split <;> rfl
@[simp] theorem State.raiseFatal_frame (c : FatalCause) :
    (s.raiseFatal c).frame = s.frame := by
  unfold State.raiseFatal; split <;> rfl
@[simp] theorem State.raiseFatal_retry (c : FatalCause) :
    (s.raiseFatal c).retry = s.retry := by
  unfold State.raiseFatal; split <;> rfl
@[simp] theorem State.raiseFatal_cause (c : FatalCause) :
    (s.raiseFatal c).cause = c.code := by
  unfold State.raiseFatal; split <;> rfl
@[simp] theorem State.raiseFatal_link (c : FatalCause) :
    (s.raiseFatal c).link = s.link := by
  unfold State.raiseFatal; split <;> rfl
@[simp] theorem State.raiseFatal_closeErr (c : FatalCause) :
    (s.raiseFatal c).closeErr = s.closeErr := by
  unfold State.raiseFatal; split <;> rfl
@[simp] theorem State.raiseFatal_params (c : FatalCause) :
    (s.raiseFatal c).params = s.params := by
  unfold State.raiseFatal; split <;> rfl
@[simp] theorem State.raiseFatal_cfg (c : FatalCause) :
    (s.raiseFatal c).cfg = s.cfg := by
  unfold State.raiseFatal; split <;> rfl
@[simp] theorem State.raiseFatal_image (c : FatalCause) :
    (s.raiseFatal c).image = s.image := by
  unfold State.raiseFatal; split <;> rfl
@[simp] theorem State.raiseFatal_imgPos (c : FatalCause) :
    (s.raiseFatal c).imgPos = s.imgPos := by
  unfold State.raiseFatal; split <;> rfl
@[simp] theorem State.raiseFatal_script (c : FatalCause) :
    (s.raiseFatal c).script = s.script := by
  unfold State.raiseFatal; split <;> rfl
@[simp] theorem State.raiseFatal_later (c : FatalCause) :
    (s.raiseFatal c).later = s.later := by
  unfold State.raiseFatal; split <;> rfl
@[simp] theorem State.raiseFatal_host (c : FatalCause) :
    (s.raiseFatal c).host = s.host := by
  unfold State.raiseFatal; split <;> rfl
@[simp] theorem State.raiseFatal_trace (c : FatalCause) :
    (s.raiseFatal c).trace = s.trace := by
  unfold State.raiseFatal; split <;> rfl

/-- With the handle held the fatal path goes to `S_CLOSE` (R224). -/
theorem State.raiseFatal_linked (c : FatalCause) (h : s.link = true) :
    s.raiseFatal c = { s with cause := c.code, state := Code.sClose } := by
  simp [State.raiseFatal, h]

/-- Without the handle the fatal path reports and halts (R224). -/
theorem State.raiseFatal_unlinked (c : FatalCause) (h : s.link = false) :
    s.raiseFatal c = { s with
      cause := c.code, state := Code.sAborted,
      reports := s.reports ++ [⟨.fatal, c.code, false⟩] } := by
  simp [State.raiseFatal, h, State.emit]

/-- The fatal path ends in `S_CLOSE` or `S_ABORTED`. -/
theorem State.raiseFatal_state (c : FatalCause) :
    (s.raiseFatal c).state = Code.sClose ∨ (s.raiseFatal c).state = Code.sAborted := by
  unfold State.raiseFatal; split <;> simp

/-- The report of the fatal path: none with the handle held, one without it (R224). -/
theorem State.raiseFatal_reports (c : FatalCause) :
    (s.link = true ∧ (s.raiseFatal c).reports = s.reports) ∨
    (s.link = false ∧ (s.raiseFatal c).reports = s.reports ++ [⟨.fatal, c.code, false⟩]) := by
  unfold State.raiseFatal
  cases s.link
  · exact .inr ⟨rfl, rfl⟩
  · exact .inl ⟨rfl, rfl⟩

/-! ### The cause codes (R90) -/

@[simp] theorem FatalCause.code_ne_none (c : FatalCause) : c.code ≠ noCause := by
  cases c <;> decide

@[simp] theorem SoftCause.code_ne_none (c : SoftCause) : c.code ≠ noCause := by
  cases c <;> decide

theorem FatalCause.isFatal (c : FatalCause) : isFatalCode c.code := by
  cases c <;> decide

theorem SoftCause.isSoft (c : SoftCause) : isSoftCode c.code := by
  cases c <;> decide

theorem SoftCause.not_isFatal (c : SoftCause) : ¬ isFatalCode c.code := by
  cases c <;> decide

theorem noCause_not_isFatal : ¬ isFatalCode noCause := by
  decide

end Sys2Proof.Machine
end

