-- ==== Sys2Proof/Laws/Ops.lean ====
section
/-! SUPPORT. One lemma per shared operation that says everything it can do. -/

namespace Sys2Proof.Machine

/-! ### Response sets (R53 to R63) -/

@[simp] theorem allows_openCh (p : Params) (r : Response) :
    Request.allows p .openCh r = true ↔ r = .ok ∨ r = .fail := by
  cases r <;> simp [Request.allows]

@[simp] theorem allows_configure (p : Params) (n : Nat) (r : Response) :
    Request.allows p (.configure n) r = true ↔ r = .ok ∨ r = .fail := by
  cases r <;> simp [Request.allows]

@[simp] theorem allows_goLive (p : Params) (r : Response) :
    Request.allows p .goLive r = true ↔ r = .ok ∨ r = .fail := by
  cases r <;> simp [Request.allows]

@[simp] theorem allows_send (p : Params) (id dlc : Nat) (data : List Byte) (t : Timeout)
    (r : Response) : Request.allows p (.send id dlc data t) r = true ↔ r = .ok ∨ r = .fail := by
  cases r <;> simp [Request.allows]

@[simp] theorem allows_recvMatch (p : Params) (id : Nat) (t : Timeout) (r : Response) :
    Request.allows p (.recvMatch id t) r = true ↔ r = .ok ∨ r = .fail := by
  cases r <;> simp [Request.allows]

@[simp] theorem allows_closeCh (p : Params) (r : Response) :
    Request.allows p .closeCh r = true ↔ r = .ok ∨ r = .fail := by
  cases r <;> simp [Request.allows]

@[simp] theorem allows_flush (p : Params) (r : Response) :
    Request.allows p .flush r = true ↔ r = .done := by
  cases r <;> simp [Request.allows]

/-- The response set of a general receive (R61), for any answer. -/
theorem allows_recv (p : Params) (t : Timeout) (r : Response) :
    Request.allows p (.recv t) r = true ↔ r = .fail ∨ ∃ id dlc data, r = .msg id dlc data ∧
      id < 2 ^ p.idW ∧ dlc ≤ 8 ∧ data.length = dlc := by
  cases r with
  | msg id dlc data =>
    simp only [Request.allows, decide_eq_true_eq, reduceCtorEq, false_or]
    exact ⟨fun h => ⟨id, dlc, data, rfl, h⟩, fun ⟨_, _, _, e, h⟩ => by cases e; exact h⟩
  | _ => simp [Request.allows]

@[simp] theorem allows_recv_msg (p : Params) (t : Timeout) (id dlc : Nat) (data : List Byte) :
    Request.allows p (.recv t) (.msg id dlc data) = true ↔
      id < 2 ^ p.idW ∧ dlc ≤ 8 ∧ data.length = dlc := by
  simp [Request.allows]

@[simp] theorem allows_recv_fail (p : Params) (t : Timeout) :
    Request.allows p (.recv t) .fail = true := by
  simp [Request.allows]

/-! ### `Tx` -/

/-- A transport request that ends in a next state either waits or has consumed one legal answer. -/
theorem State.tx_next {s t : State} {req : Request} {k : Response → State → State}
    (h : s.tx req k = .next t) :
    (s.supplied.script = [] ∧ t = s) ∨ ∃ r rest, s.supplied.script = r :: rest ∧
      req.allows s.params r = true ∧ t = k r (s.supplied.answered req r rest) := by
  unfold State.tx at h
  split at h
  · rename_i hs
    exact .inl ⟨hs, by simpa using h.symm⟩
  · rename_i r rest hs
    split at h
    · rename_i ha
      exact .inr ⟨r, rest, hs, ha, by simpa using h.symm⟩
    · simp at h

/-- A legal answer completes the request. -/
theorem State.tx_answer {s : State} {req : Request} {k : Response → State → State} {r : Response}
    {rest : List Response} (hs : s.supplied.script = r :: rest)
    (ha : req.allows s.params r = true) :
    s.tx req k = .next (k r (s.supplied.answered req r rest)) := by
  simp [State.tx, hs, ha]

/-- A legal listed answer completes the request. -/
theorem State.tx_listed {s : State} {req : Request} {k : Response → State → State} {r : Response}
    {rest : List Response} (hs : s.script = r :: rest) (ha : req.allows s.params r = true) :
    s.tx req k = .next (k r (s.answered req r rest)) := by
  have h := State.supplied_listed (s := s) (by simp [hs])
  rw [State.tx_answer (by rw [h, hs]) ha, h]

/-- No answer leaves the request waiting. -/
theorem State.tx_waits {s : State} {req : Request} {k : Response → State → State}
    (hs : s.supplied.script = []) : s.tx req k = .next s := by
  simp [State.tx, hs]

/-- An illegal answer is refused. -/
theorem State.tx_refused {s : State} {req : Request} {k : Response → State → State} {r : Response}
    {rest : List Response} (hs : s.supplied.script = r :: rest)
    (ha : req.allows s.params r = false) :
    s.tx req k = .refused .illegalResponse := by
  simp [State.tx, hs, ha]

/-- Where an answer is to come, a request takes it as if it had been listed all along. -/
theorem State.tx_supplied {s : State} {req : Request} {k : Response → State → State}
    (hs : s.supplied.script ≠ []) : s.tx req k = s.supplied.tx req k := by
  unfold State.tx
  rw [State.supplied_supplied]
  cases h : s.supplied.script with
  | nil => exact absurd h hs
  | cons r rest => rfl

/-! ### The nibble arm (R182) -/

/-- Everything the nibble arm can do. -/
theorem State.collect_cases (s : State) (v : Byte) :
    (s.cfg.check = true ∧ valid v = false ∧ s.collect v = s.raiseFatal .eMalformed) ∨
    ((s.cfg.check = false ∨ valid v = true) ∧
      ((s.nibCnt = 0 ∧ s.collect v = { s with nib0 := v, nibCnt := 1, state := Code.sFetch }) ∨
       (s.nibCnt = 1 ∧ s.collect v = { s with nib1 := v, nibCnt := 2, state := Code.sFetch }) ∨
       (s.nibCnt = 2 ∧ s.collect v = { s with nib2 := v, nibCnt := 3, state := Code.sFetch }) ∨
       (s.nibCnt = 3 ∧ s.collect v = { s with
          frame := group (countField s.cnt) s.nib0 s.nib1 s.nib2 v, nibCnt := 0, retry := 0,
          state := Code.sSend }))) := by
  by_cases hc : (s.cfg.check && !valid v) = true
  · left
    simp only [Bool.and_eq_true, Bool.not_eq_true'] at hc
    exact ⟨hc.1, hc.2, by simp [State.collect, hc.1, hc.2]⟩
  · right
    refine ⟨by simpa [Bool.and_eq_true, or_iff_not_imp_left] using hc, ?_⟩
    have hn : s.nibCnt = 0 ∨ s.nibCnt = 1 ∨ s.nibCnt = 2 ∨ s.nibCnt = 3 := by
      generalize s.nibCnt = n
      revert n
      decide
    simp only [State.collect, hc]
    rcases hn with h | h | h | h <;> simp [h]

/-- A collected nibble never moves the image or touches what is not the block's. -/
@[simp] theorem State.collect_env (s : State) (v : Byte) :
    (s.collect v).trace = s.trace ∧ (s.collect v).params = s.params ∧
    (s.collect v).cfg = s.cfg ∧ (s.collect v).image = s.image ∧
    (s.collect v).imgPos = s.imgPos ∧ (s.collect v).script = s.script ∧ (s.collect v).later = s.later ∧
    (s.collect v).host = s.host ∧ (s.collect v).cnt = s.cnt ∧
    (s.collect v).link = s.link ∧ (s.collect v).closeErr = s.closeErr := by
  rcases s.collect_cases v with ⟨-, -, h⟩ | ⟨-, ⟨-, h⟩ | ⟨-, h⟩ | ⟨-, h⟩ | ⟨-, h⟩⟩ <;> simp [h]

/-! ### The step -/

/-- Everything a step can do: take a reset, or run the selected operation. -/
theorem step_next {s t : State} (h : step s = .next t) :
    (∃ cfg image sc l rest, s.host = .reset cfg image sc l :: rest ∧
      t = { s with host := rest }.hostReset cfg image sc l) ∨
    (∃ rest, exec (decodeState s.state) { s with host := rest } = .next t) := by
  unfold step at h
  split at h
  · rename_i hh
    refine .inr ⟨[], ?_⟩
    rw [← hh]
    exact h
  · rename_i rest hh
    exact .inr ⟨rest, h⟩
  · rename_i cfg image sc l rest hh
    exact .inl ⟨cfg, image, sc, l, rest, hh, by simpa using h.symm⟩

/-- With the host idle the step is the selected operation. -/
theorem step_idle {s : State} (h : s.host = []) : step s = exec (decodeState s.state) s := by
  simp [step, h]

/-- Each state code selects one operation (R82). -/
theorem decodeState_cases (c : StateCode) :
    (c = Code.sOpen ∧ decodeState c = .sOpen) ∨ (c = Code.sConfig ∧ decodeState c = .sConfig) ∨
    (c = Code.sGolive ∧ decodeState c = .sGolive) ∨ (c = Code.sStart ∧ decodeState c = .sStart) ∨
    (c = Code.sWaitHb ∧ decodeState c = .sWaitHb) ∨ (c = Code.sFlush ∧ decodeState c = .sFlush) ∨
    (c = Code.sRewind ∧ decodeState c = .sRewind) ∨ (c = Code.sFetch ∧ decodeState c = .sFetch) ∨
    (c = Code.sSend ∧ decodeState c = .sSend) ∨ (c = Code.sAckWait ∧ decodeState c = .sAckWait) ∨
    (c = Code.sAckRead ∧ decodeState c = .sAckRead) ∨ (c = Code.sFailed ∧ decodeState c = .sFailed) ∨
    (c = Code.sClose ∧ decodeState c = .sClose) ∨ (c = Code.sDone ∧ decodeState c = .sDone) ∨
    (c = Code.sAborted ∧ decodeState c = .sAborted) ∨
    (c = Code.reserved ∧ decodeState c = .reservedState0xF) := by
  revert c
  decide

end Sys2Proof.Machine
end

