-- ==== Sys2Proof/Laws/Instructions.lean ====
section
/-! SUPPORT. One inversion lemma per operation: if it answers a next state, one of these cases
holds. -/

namespace Sys2Proof.Machine

variable {s t : State}

theorem execSOpen_next (h : execSOpen s = .next t) :
    (s.supplied.script = [] ∧ t = s) ∨ ∃ rest,
      (s.supplied.script = .ok :: rest ∧ t = { s.supplied.answered .openCh .ok rest with
        link := true, state := Code.sConfig }) ∨
      (s.supplied.script = .fail :: rest ∧ t = (s.supplied.answered .openCh .fail rest).raiseFatal .eOpen) := by
  rcases State.tx_next h with h | ⟨r, rest, hs, ha, rfl⟩
  · exact .inl h
  · rw [allows_openCh] at ha
    rcases ha with rfl | rfl
    · exact .inr ⟨rest, .inl ⟨hs, rfl⟩⟩
    · exact .inr ⟨rest, .inr ⟨hs, rfl⟩⟩

theorem execSConfig_next (h : execSConfig s = .next t) :
    (s.supplied.script = [] ∧ t = s) ∨ ∃ rest,
      (s.supplied.script = .ok :: rest ∧ t = { s.supplied.answered (.configure s.params.bitrate) .ok rest with
        state := Code.sGolive }) ∨
      (s.supplied.script = .fail :: rest ∧
        t = (s.supplied.answered (.configure s.params.bitrate) .fail rest).raiseFatal .eConfig) := by
  rcases State.tx_next h with h | ⟨r, rest, hs, ha, rfl⟩
  · exact .inl h
  · rw [allows_configure] at ha
    rcases ha with rfl | rfl
    · exact .inr ⟨rest, .inl ⟨hs, rfl⟩⟩
    · exact .inr ⟨rest, .inr ⟨hs, rfl⟩⟩

theorem execSGolive_next (h : execSGolive s = .next t) :
    (s.supplied.script = [] ∧ t = s) ∨ ∃ rest,
      (s.supplied.script = .ok :: rest ∧ t = { s.supplied.answered .goLive .ok rest with
        state := Code.sStart }) ∨
      (s.supplied.script = .fail :: rest ∧ t = (s.supplied.answered .goLive .fail rest).raiseFatal .eGolive) := by
  rcases State.tx_next h with h | ⟨r, rest, hs, ha, rfl⟩
  · exact .inl h
  · rw [allows_goLive] at ha
    rcases ha with rfl | rfl
    · exact .inr ⟨rest, .inl ⟨hs, rfl⟩⟩
    · exact .inr ⟨rest, .inr ⟨hs, rfl⟩⟩

theorem execSStart_next (h : execSStart s = .next t) :
    (s.cfg.bypass = true ∧ t = { s with state := Code.sWaitHb }) ∨
    (s.cfg.bypass = false ∧ s.deviceId = 0 ∧ t = s.raiseFatal .eNodev) ∨
    (s.cfg.bypass = false ∧ s.deviceId ≠ 0 ∧ ((s.supplied.script = [] ∧ t = s) ∨ ∃ rest,
      (s.supplied.script = .ok :: rest ∧ t = { s.supplied.answered s.startCommand .ok rest with
        state := Code.sWaitHb }) ∨
      (s.supplied.script = .fail :: rest ∧
        t = (s.supplied.answered s.startCommand .fail rest).raiseFatal .eStart))) := by
  unfold execSStart at h
  split at h
  · rename_i hb
    exact .inl ⟨hb, by simpa using h.symm⟩
  · rename_i hb
    simp only [Bool.not_eq_true] at hb
    split at h
    · rename_i hd
      exact .inr (.inl ⟨hb, hd, by simpa using h.symm⟩)
    · rename_i hd
      refine .inr (.inr ⟨hb, hd, ?_⟩)
      rcases State.tx_next h with h | ⟨r, rest, hs, ha, rfl⟩
      · exact .inl h
      · rw [State.startCommand, allows_send] at ha
        rcases ha with rfl | rfl
        · exact .inr ⟨rest, .inl ⟨hs, rfl⟩⟩
        · exact .inr ⟨rest, .inr ⟨hs, rfl⟩⟩

theorem execSWaitHb_next (h : execSWaitHb s = .next t) :
    (s.supplied.script = [] ∧ t = s) ∨ ∃ rest,
      (s.supplied.script = .ok :: rest ∧
        t = { s.supplied.answered (.recvMatch s.params.hbId s.params.tHb) .ok rest with
          state := Code.sFlush }) ∨
      (s.supplied.script = .fail :: rest ∧
        t = { s.supplied.answered (.recvMatch s.params.hbId s.params.tHb) .fail rest with
          state := Code.sWaitHb }) := by
  rcases State.tx_next h with h | ⟨r, rest, hs, ha, rfl⟩
  · exact .inl h
  · rw [allows_recvMatch] at ha
    rcases ha with rfl | rfl
    · exact .inr ⟨rest, .inl ⟨hs, rfl⟩⟩
    · exact .inr ⟨rest, .inr ⟨hs, rfl⟩⟩

theorem execSFlush_next (h : execSFlush s = .next t) :
    (s.supplied.script = [] ∧ t = s) ∨ ∃ rest, s.supplied.script = .done :: rest ∧
      t = { s.supplied.answered .flush .done rest with state := Code.sRewind } := by
  rcases State.tx_next h with h | ⟨r, rest, hs, ha, rfl⟩
  · exact .inl h
  · rw [allows_flush] at ha
    subst ha
    exact .inr ⟨rest, hs, rfl⟩

theorem execSRewind_next (h : execSRewind s = .next t) :
    t = { s.imgRewound with
      cnt := s.params.cntInit, nibCnt := 0, retry := 0, state := Code.sFetch } := by
  simpa [execSRewind] using h.symm

/-- A byte class as an operation is one of three things: a skip, or a nibble collected. -/
theorem execSFetch_eq (s : State) :
    execSFetch s = .next (match s.imgPeek with
      | none => { s.imgEnded with nibCnt := 0, state := Code.sAckWait }
      | some b => match dec s.params b with
        | .skip => { s.imgByte b with state := Code.sFetch }
        | .nib v => (s.imgByte b).collect v) := by
  unfold execSFetch
  cases s.imgPeek with
  | none => rfl
  | some b =>
    by_cases h1 : b.toNat < s.params.skipLimit
    · simp [classOf, dec, h1, execNibSkip]
    · by_cases h2 : s.params.alphaLimit < b.toNat
      · simp [classOf, dec, h1, h2, execNibAlpha]
      · by_cases h3 : b = atByte
        · have hc : classOf s.params b = .atSign := by
            unfold classOf; rw [if_neg h1, if_neg h2, if_pos h3]
          have hd : dec s.params b = .nib (digitNibble s.params b) := by
            unfold dec; rw [if_neg h1, if_neg h2]
          simp only [hc, hd, execNibAt]
          rw [h3]
        · simp [classOf, dec, h1, h2, h3, execNibDigit]

theorem execSFetch_next (h : execSFetch s = .next t) :
    (s.imgPeek = none ∧ t = { s.imgEnded with nibCnt := 0, state := Code.sAckWait }) ∨
    ∃ b, s.imgPeek = some b ∧
      ((dec s.params b = .skip ∧ t = { s.imgByte b with state := Code.sFetch }) ∨
       ∃ v, dec s.params b = .nib v ∧ t = (s.imgByte b).collect v) := by
  rw [execSFetch_eq] at h
  simp only [Host.Outcome.next.injEq] at h
  cases hp : s.imgPeek with
  | none => exact .inl ⟨rfl, by simpa [hp] using h.symm⟩
  | some b =>
    refine .inr ⟨b, rfl, ?_⟩
    cases hd : dec s.params b with
    | skip => exact .inl ⟨rfl, by simpa [hp, hd] using h.symm⟩
    | nib v => exact .inr ⟨v, rfl, by simpa [hp, hd] using h.symm⟩

theorem execSSend_next (h : execSSend s = .next t) :
    (s.supplied.script = [] ∧ t = s) ∨ ∃ rest,
      (s.supplied.script = .ok :: rest ∧ t = { s.supplied.answered s.dataMessage .ok rest with
        cnt := nextCount s.params s.cnt, retry := 0, state := Code.sFetch }) ∨
      (s.supplied.script = .fail :: rest ∧
        ((limitReached s.cfg.retryLimit (nextRetry s.retry) = true ∧
          t = { s.supplied.answered s.dataMessage .fail rest with
            retry := nextRetry s.retry, cause := SoftCause.fSendLimit.code,
            state := Code.sFailed }) ∨
         (limitReached s.cfg.retryLimit (nextRetry s.retry) = false ∧
          t = { s.supplied.answered s.dataMessage .fail rest with
            retry := nextRetry s.retry, state := Code.sSend }))) := by
  rcases State.tx_next h with h | ⟨r, rest, hs, ha, rfl⟩
  · exact .inl h
  · rw [State.dataMessage, allows_send] at ha
    rcases ha with rfl | rfl
    · exact .inr ⟨rest, .inl ⟨hs, rfl⟩⟩
    · refine .inr ⟨rest, .inr ⟨hs, ?_⟩⟩
      cases hl : limitReached s.cfg.retryLimit (nextRetry s.retry)
      · exact .inr ⟨rfl, by simp [State.answered, hl]⟩
      · exact .inl ⟨rfl, by simp [State.answered, State.raiseSoft, hl]⟩

theorem execSAckWait_next (h : execSAckWait s = .next t) :
    (s.supplied.script = [] ∧ t = s) ∨ ∃ rest,
      (s.supplied.script = .ok :: rest ∧
        t = { s.supplied.answered (.recvMatch s.params.ackId s.params.tAck) .ok rest with
          state := Code.sAckRead }) ∨
      (s.supplied.script = .fail :: rest ∧
        t = (s.supplied.answered (.recvMatch s.params.ackId s.params.tAck) .fail rest).raiseSoft
          .fAckMatch) := by
  rcases State.tx_next h with h | ⟨r, rest, hs, ha, rfl⟩
  · exact .inl h
  · rw [allows_recvMatch] at ha
    rcases ha with rfl | rfl
    · exact .inr ⟨rest, .inl ⟨hs, rfl⟩⟩
    · exact .inr ⟨rest, .inr ⟨hs, rfl⟩⟩

theorem execSAckRead_next (h : execSAckRead s = .next t) :
    (s.supplied.script = [] ∧ t = s) ∨ ∃ r rest, s.supplied.script = r :: rest ∧
      Request.allows s.params (.recv s.params.tAck) r = true ∧
      ((r = .fail ∧ t = (s.supplied.answered (.recv s.params.tAck) r rest).raiseSoft .fAckRecv) ∨
       ∃ id dlc data, r = .msg id dlc data ∧
        ((ackAccepted s.params dlc data = true ∧
          t = { s.supplied.answered (.recv s.params.tAck) r rest with
            cause := noCause, state := Code.sClose }) ∨
         (ackAccepted s.params dlc data = false ∧
          t = (s.supplied.answered (.recv s.params.tAck) r rest).raiseSoft .fAckValue))) := by
  rcases State.tx_next h with h | ⟨r, rest, hs, ha, rfl⟩
  · exact .inl h
  · refine .inr ⟨r, rest, hs, ha, ?_⟩
    rw [allows_recv] at ha
    rcases ha with rfl | ⟨id, dlc, data, rfl, -⟩
    · exact .inl ⟨rfl, rfl⟩
    · refine .inr ⟨id, dlc, data, rfl, ?_⟩
      cases hk : ackAccepted s.params dlc data
      · exact .inr ⟨rfl, by simp [hk]⟩
      · exact .inl ⟨rfl, by simp [hk]⟩

theorem execSFailed_next (h : execSFailed s = .next t) :
    t = (s.emit .fail s.cause false).resumeAttempts := by
  simpa [execSFailed] using h.symm

theorem execSClose_next (h : execSClose s = .next t) :
    (s.supplied.script = [] ∧ t = s) ∨ ∃ r rest, s.supplied.script = r :: rest ∧ (r = .ok ∨ r = .fail) ∧
      ((s.cause = noCause ∧ t = { s.supplied.answered .closeCh r rest with
          link := false, closeErr := decide (r = .fail),
          reports := s.reports ++ [⟨.success, noCause, decide (r = .fail)⟩],
          state := Code.sDone }) ∨
       (s.cause ≠ noCause ∧ t = { s.supplied.answered .closeCh r rest with
          link := false, closeErr := decide (r = .fail),
          reports := s.reports ++ [⟨.fatal, s.cause, decide (r = .fail)⟩],
          state := Code.sAborted })) := by
  rcases State.tx_next h with h | ⟨r, rest, hs, ha, rfl⟩
  · exact .inl h
  · rw [allows_closeCh] at ha
    refine .inr ⟨r, rest, hs, ha, ?_⟩
    by_cases hc : s.cause = noCause
    · refine .inl ⟨hc, ?_⟩
      rcases ha with rfl | rfl <;> simp [State.answered, State.emit, hc]
    · refine .inr ⟨hc, ?_⟩
      rcases ha with rfl | rfl <;> simp [State.answered, State.emit, hc]

end Sys2Proof.Machine
end

