-- ==== Sys2Proof/Laws/Moves.lean ====
section
/-! SUPPORT. Everything a step can do, as one relation: each constructor is one arm of one rule. A
proof that every step keeps something takes the cases of `Move`. -/

namespace Sys2Proof.Machine

/-- The moves of the operation that `STATE` selects. -/
inductive Move (s : State) : State → Prop where
  /-- nothing changes: a request that is not answered (R266), or a halted block (R252). -/
  | hold : Move s s
  | openOk (rest) : s.state = Code.sOpen → s.supplied.script = .ok :: rest →
      Move s { s.supplied.answered .openCh .ok rest with link := true, state := Code.sConfig }
  | openFail (rest) : s.state = Code.sOpen → s.supplied.script = .fail :: rest →
      Move s ((s.supplied.answered .openCh .fail rest).raiseFatal .eOpen)
  | configOk (rest) : s.state = Code.sConfig → s.supplied.script = .ok :: rest →
      Move s { s.supplied.answered (.configure s.params.bitrate) .ok rest with state := Code.sGolive }
  | configFail (rest) : s.state = Code.sConfig → s.supplied.script = .fail :: rest →
      Move s ((s.supplied.answered (.configure s.params.bitrate) .fail rest).raiseFatal .eConfig)
  | goliveOk (rest) : s.state = Code.sGolive → s.supplied.script = .ok :: rest →
      Move s { s.supplied.answered .goLive .ok rest with state := Code.sStart }
  | goliveFail (rest) : s.state = Code.sGolive → s.supplied.script = .fail :: rest →
      Move s ((s.supplied.answered .goLive .fail rest).raiseFatal .eGolive)
  | startBypass : s.state = Code.sStart → s.cfg.bypass = true →
      Move s { s with state := Code.sWaitHb }
  | startNodev : s.state = Code.sStart → s.cfg.bypass = false → s.deviceId = 0 →
      Move s (s.raiseFatal .eNodev)
  | startOk (rest) : s.state = Code.sStart → s.cfg.bypass = false → s.deviceId ≠ 0 →
      s.supplied.script = .ok :: rest →
      Move s { s.supplied.answered s.startCommand .ok rest with state := Code.sWaitHb }
  | startFail (rest) : s.state = Code.sStart → s.cfg.bypass = false → s.deviceId ≠ 0 →
      s.supplied.script = .fail :: rest → Move s ((s.supplied.answered s.startCommand .fail rest).raiseFatal .eStart)
  | waitOk (rest) : s.state = Code.sWaitHb → s.supplied.script = .ok :: rest →
      Move s { s.supplied.answered (.recvMatch s.params.hbId s.params.tHb) .ok rest with
        state := Code.sFlush }
  | waitFail (rest) : s.state = Code.sWaitHb → s.supplied.script = .fail :: rest →
      Move s { s.supplied.answered (.recvMatch s.params.hbId s.params.tHb) .fail rest with
        state := Code.sWaitHb }
  | flushed (rest) : s.state = Code.sFlush → s.supplied.script = .done :: rest →
      Move s { s.supplied.answered .flush .done rest with state := Code.sRewind }
  | rewound : s.state = Code.sRewind →
      Move s { s.imgRewound with
        cnt := s.params.cntInit, nibCnt := 0, retry := 0, state := Code.sFetch }
  | imageEnd : s.state = Code.sFetch → s.imgPeek = none →
      Move s { s.imgEnded with nibCnt := 0, state := Code.sAckWait }
  | skipped (b) : s.state = Code.sFetch → s.imgPeek = some b → dec s.params b = .skip →
      Move s { s.imgByte b with state := Code.sFetch }
  | malformed (b v) : s.state = Code.sFetch → s.imgPeek = some b → dec s.params b = .nib v →
      s.cfg.check = true → valid v = false →
      Move s ((s.imgByte b).raiseFatal .eMalformed)
  | slot0 (b v) : s.state = Code.sFetch → s.imgPeek = some b → dec s.params b = .nib v →
      s.cfg.check = false ∨ valid v = true → s.nibCnt = 0 →
      Move s { s.imgByte b with nib0 := v, nibCnt := 1, state := Code.sFetch }
  | slot1 (b v) : s.state = Code.sFetch → s.imgPeek = some b → dec s.params b = .nib v →
      s.cfg.check = false ∨ valid v = true → s.nibCnt = 1 →
      Move s { s.imgByte b with nib1 := v, nibCnt := 2, state := Code.sFetch }
  | slot2 (b v) : s.state = Code.sFetch → s.imgPeek = some b → dec s.params b = .nib v →
      s.cfg.check = false ∨ valid v = true → s.nibCnt = 2 →
      Move s { s.imgByte b with nib2 := v, nibCnt := 3, state := Code.sFetch }
  | grouped (b v) : s.state = Code.sFetch → s.imgPeek = some b → dec s.params b = .nib v →
      s.cfg.check = false ∨ valid v = true → s.nibCnt = 3 →
      Move s { s.imgByte b with
        frame := group (countField s.cnt) s.nib0 s.nib1 s.nib2 v, nibCnt := 0, retry := 0,
        state := Code.sSend }
  | sendOk (rest) : s.state = Code.sSend → s.supplied.script = .ok :: rest →
      Move s { s.supplied.answered s.dataMessage .ok rest with
        cnt := nextCount s.params s.cnt, retry := 0, state := Code.sFetch }
  | sendLimit (rest) : s.state = Code.sSend → s.supplied.script = .fail :: rest →
      limitReached s.cfg.retryLimit (nextRetry s.retry) = true →
      Move s { s.supplied.answered s.dataMessage .fail rest with
        retry := nextRetry s.retry, cause := SoftCause.fSendLimit.code, state := Code.sFailed }
  | sendAgain (rest) : s.state = Code.sSend → s.supplied.script = .fail :: rest →
      limitReached s.cfg.retryLimit (nextRetry s.retry) = false →
      Move s { s.supplied.answered s.dataMessage .fail rest with
        retry := nextRetry s.retry, state := Code.sSend }
  | ackOk (rest) : s.state = Code.sAckWait → s.supplied.script = .ok :: rest →
      Move s { s.supplied.answered (.recvMatch s.params.ackId s.params.tAck) .ok rest with
        state := Code.sAckRead }
  | ackFail (rest) : s.state = Code.sAckWait → s.supplied.script = .fail :: rest →
      Move s ((s.supplied.answered (.recvMatch s.params.ackId s.params.tAck) .fail rest).raiseSoft
        .fAckMatch)
  | readFail (rest) : s.state = Code.sAckRead → s.supplied.script = .fail :: rest →
      Move s ((s.supplied.answered (.recv s.params.tAck) .fail rest).raiseSoft .fAckRecv)
  | readGood (rest id dlc data) : s.state = Code.sAckRead →
      s.supplied.script = .msg id dlc data :: rest →
      Request.allows s.params (.recv s.params.tAck) (.msg id dlc data) = true →
      ackAccepted s.params dlc data = true →
      Move s { s.supplied.answered (.recv s.params.tAck) (.msg id dlc data) rest with
        cause := noCause, state := Code.sClose }
  | readBad (rest id dlc data) : s.state = Code.sAckRead →
      s.supplied.script = .msg id dlc data :: rest →
      Request.allows s.params (.recv s.params.tAck) (.msg id dlc data) = true →
      ackAccepted s.params dlc data = false →
      Move s ((s.supplied.answered (.recv s.params.tAck) (.msg id dlc data) rest).raiseSoft .fAckValue)
  | failed : s.state = Code.sFailed → Move s (s.emit .fail s.cause false).resumeAttempts
  | closedDone (r rest) : s.state = Code.sClose → s.supplied.script = r :: rest → r = .ok ∨ r = .fail →
      s.cause = noCause → Move s { s.supplied.answered .closeCh r rest with
        link := false, closeErr := decide (r = .fail),
        reports := s.reports ++ [⟨.success, noCause, decide (r = .fail)⟩], state := Code.sDone }
  | closedAborted (r rest) : s.state = Code.sClose → s.supplied.script = r :: rest →
      r = .ok ∨ r = .fail → s.cause ≠ noCause → Move s { s.supplied.answered .closeCh r rest with
        link := false, closeErr := decide (r = .fail),
        reports := s.reports ++ [⟨.fatal, s.cause, decide (r = .fail)⟩],
        state := Code.sAborted }

/-- The operation that `STATE` selects answers with one of the moves. -/
theorem exec_move {s t : State} (h : exec (decodeState s.state) s = .next t) : Move s t := by
  rcases decodeState_cases s.state with ⟨hc, e⟩ | ⟨hc, e⟩ | ⟨hc, e⟩ | ⟨hc, e⟩ | ⟨hc, e⟩ | ⟨hc, e⟩ |
    ⟨hc, e⟩ | ⟨hc, e⟩ | ⟨hc, e⟩ | ⟨hc, e⟩ | ⟨hc, e⟩ | ⟨hc, e⟩ | ⟨hc, e⟩ | ⟨hc, e⟩ | ⟨hc, e⟩ |
    ⟨hc, e⟩ <;> rw [e] at h
  · rcases execSOpen_next h with ⟨-, rfl⟩ | ⟨rest, ⟨hs, rfl⟩ | ⟨hs, rfl⟩⟩
    exacts [.hold, .openOk rest hc hs, .openFail rest hc hs]
  · rcases execSConfig_next h with ⟨-, rfl⟩ | ⟨rest, ⟨hs, rfl⟩ | ⟨hs, rfl⟩⟩
    exacts [.hold, .configOk rest hc hs, .configFail rest hc hs]
  · rcases execSGolive_next h with ⟨-, rfl⟩ | ⟨rest, ⟨hs, rfl⟩ | ⟨hs, rfl⟩⟩
    exacts [.hold, .goliveOk rest hc hs, .goliveFail rest hc hs]
  · rcases execSStart_next h with ⟨hb, rfl⟩ | ⟨hb, hd, rfl⟩ |
      ⟨hb, hd, ⟨-, rfl⟩ | ⟨rest, ⟨hs, rfl⟩ | ⟨hs, rfl⟩⟩⟩
    exacts [.startBypass hc hb, .startNodev hc hb hd, .hold, .startOk rest hc hb hd hs,
      .startFail rest hc hb hd hs]
  · rcases execSWaitHb_next h with ⟨-, rfl⟩ | ⟨rest, ⟨hs, rfl⟩ | ⟨hs, rfl⟩⟩
    exacts [.hold, .waitOk rest hc hs, .waitFail rest hc hs]
  · rcases execSFlush_next h with ⟨-, rfl⟩ | ⟨rest, hs, rfl⟩
    exacts [.hold, .flushed rest hc hs]
  · obtain rfl := execSRewind_next h
    exact .rewound hc
  · rcases execSFetch_next h with ⟨hp, rfl⟩ | ⟨b, hp, ⟨hd, rfl⟩ | ⟨v, hd, rfl⟩⟩
    · exact .imageEnd hc hp
    · exact .skipped b hc hp hd
    · rcases State.collect_cases (s.imgByte b) v with ⟨h1, h2, e⟩ | ⟨h1, ⟨h2, e⟩ | ⟨h2, e⟩ |
        ⟨h2, e⟩ | ⟨h2, e⟩⟩ <;> rw [e]
      exacts [.malformed b v hc hp hd h1 h2, .slot0 b v hc hp hd h1 h2, .slot1 b v hc hp hd h1 h2,
        .slot2 b v hc hp hd h1 h2, .grouped b v hc hp hd h1 h2]
  · rcases execSSend_next h with ⟨-, rfl⟩ | ⟨rest, ⟨hs, rfl⟩ | ⟨hs, ⟨hl, rfl⟩ | ⟨hl, rfl⟩⟩⟩
    exacts [.hold, .sendOk rest hc hs, .sendLimit rest hc hs hl, .sendAgain rest hc hs hl]
  · rcases execSAckWait_next h with ⟨-, rfl⟩ | ⟨rest, ⟨hs, rfl⟩ | ⟨hs, rfl⟩⟩
    exacts [.hold, .ackOk rest hc hs, .ackFail rest hc hs]
  · rcases execSAckRead_next h with ⟨-, rfl⟩ | ⟨r, rest, hs, hl, ⟨rfl, rfl⟩ |
      ⟨id, dlc, data, rfl, ⟨ha, rfl⟩ | ⟨ha, rfl⟩⟩⟩
    exacts [.hold, .readFail rest hc hs, .readGood rest id dlc data hc hs hl ha,
      .readBad rest id dlc data hc hs hl ha]
  · obtain rfl := execSFailed_next h
    exact .failed hc
  · rcases execSClose_next h with ⟨-, rfl⟩ | ⟨r, rest, hs, hr, ⟨hn, rfl⟩ | ⟨hn, rfl⟩⟩
    exacts [.hold, .closedDone r rest hc hs hr hn, .closedAborted r rest hc hs hr hn]
  · obtain rfl : s = t := by simpa [exec, execSDone] using h
    exact .hold
  · obtain rfl : s = t := by simpa [exec, execSAborted] using h
    exact .hold
  · simp [exec, execReservedState0xF] at h

/-- Everything a step can do: a reset by the host, or a move with the host's move taken. -/
theorem step_move {s t : State} (h : step s = .next t) :
    (∃ cfg image sc l rest, t = { s with host := rest }.hostReset cfg image sc l) ∨
    ∃ rest, Move { s with host := rest } t := by
  rcases step_next h with ⟨cfg, image, sc, l, rest, -, rfl⟩ | ⟨rest, h⟩
  · exact .inl ⟨cfg, image, sc, l, rest, rfl⟩
  · exact .inr ⟨rest, exec_move (s := { s with host := rest }) h⟩

/-- The operation that `STATE` selects is the transport request that the request column of R82 gives,
where it gives one. -/
theorem exec_request {s : State} {req : Request} (h : s.request = some req)
    (ht : req.toTransport = true) : ∃ k, exec (decodeState s.state) s = s.tx req k := by
  unfold State.request at h
  rcases decodeState_cases s.state with ⟨hc, e⟩ | ⟨hc, e⟩ | ⟨hc, e⟩ | ⟨hc, e⟩ | ⟨hc, e⟩ | ⟨hc, e⟩ |
    ⟨hc, e⟩ | ⟨hc, e⟩ | ⟨hc, e⟩ | ⟨hc, e⟩ | ⟨hc, e⟩ | ⟨hc, e⟩ | ⟨hc, e⟩ | ⟨hc, e⟩ | ⟨hc, e⟩ |
    ⟨hc, e⟩ <;> rw [e] at h ⊢ <;> simp only [exec] <;>
    simp only [Option.some.injEq, reduceCtorEq] at h
  case inr.inr.inr.inl =>
    split at h
    · simp at h
    · rename_i hb
      simp only [Bool.not_eq_true, not_or] at hb
      simp only [Option.some.injEq] at h
      subst h
      exact ⟨_, by simp only [execSStart, hb.1, hb.2, if_false, Bool.false_eq_true]; rfl⟩
  all_goals subst h
  all_goals first | exact ⟨_, rfl⟩ | simp [Request.toTransport] at ht

end Sys2Proof.Machine
end

