-- ==== Sys2Proof/Laws/Parameters.lean ====
section
/-! SUPPORT. The CBPE-1 value of each parameter, and what the decoder is at those values. -/

namespace Sys2Proof

@[simp] theorem Params.cbpe1_idW : Params.cbpe1.idW = 11 := rfl
@[simp] theorem Params.cbpe1_hbId : Params.cbpe1.hbId = 2 := rfl
@[simp] theorem Params.cbpe1_dataId : Params.cbpe1.dataId = 1 := rfl
@[simp] theorem Params.cbpe1_ackId : Params.cbpe1.ackId = 2 := rfl
@[simp] theorem Params.cbpe1_ackIndex : Params.cbpe1.ackIndex = 2 := rfl
@[simp] theorem Params.cbpe1_ackValue : Params.cbpe1.ackValue = 0x80 := rfl
@[simp] theorem Params.cbpe1_tStart : Params.cbpe1.tStart = .units 10000 := rfl
@[simp] theorem Params.cbpe1_tData : Params.cbpe1.tData = .units 10000 := rfl
@[simp] theorem Params.cbpe1_tAck : Params.cbpe1.tAck = .units 10000 := rfl
@[simp] theorem Params.cbpe1_tHb : Params.cbpe1.tHb = .infinite := rfl
@[simp] theorem Params.cbpe1_startDlc : Params.cbpe1.startDlc = 8 := rfl
@[simp] theorem Params.cbpe1_startFill : Params.cbpe1.startFill = 0xFF := rfl
@[simp] theorem Params.cbpe1_dataDlc : Params.cbpe1.dataDlc = 4 := rfl
@[simp] theorem Params.cbpe1_cntInit : Params.cbpe1.cntInit = 1 := rfl
@[simp] theorem Params.cbpe1_cntW : Params.cbpe1.cntW = 16 := rfl
@[simp] theorem Params.cbpe1_skipLimit : Params.cbpe1.skipLimit = 48 := rfl
@[simp] theorem Params.cbpe1_alphaLimit : Params.cbpe1.alphaLimit = 64 := rfl
@[simp] theorem Params.cbpe1_alphaBias : Params.cbpe1.alphaBias = 55 := rfl
@[simp] theorem Params.cbpe1_digitBias : Params.cbpe1.digitBias = 48 := rfl
@[simp] theorem Params.cbpe1_bitrate : Params.cbpe1.bitrate = Config.bitrate := rfl
@[simp] theorem Params.cbpe1_timeUnit : Params.cbpe1.timeUnit = Config.timeUnit := rfl

/-- The CBPE-1 parameters pass their check. -/
theorem Params.cbpe1_wellFormed : Params.cbpe1.WellFormed := by decide

end Sys2Proof

namespace Sys2Proof.Machine

/-- At the CBPE-1 thresholds the classes by threshold (R120) are those of the match/mask table
(R81). -/
theorem classOf_eq_byteClass (p : Params) (h1 : p.skipLimit = 48) (h2 : p.alphaLimit = 64)
    (b : Byte) : classOf p b = byteClass b := by
  unfold classOf
  rw [h1, h2]
  revert b
  decide

/-- `dec` (R120) by byte class: a skip, or the class's nibble. -/
theorem dec_eq_classOf (p : Params) (b : Byte) :
    dec p b = match classOf p b with
      | .skip => .skip
      | .alpha => .nib (alphaNibble p b)
      | .atSign => .nib (digitNibble p b)
      | .digit => .nib (digitNibble p b) := by
  unfold dec classOf
  split
  · rfl
  · split
    · rfl
    · by_cases h : b = atByte
      · rw [if_pos h]
      · rw [if_neg h]

/-- With biases that fit the thresholds (`Params.check`), no nibble subtraction goes below zero
(R120). -/
theorem nibble_toNat (p : Params) (b : Byte) (h1 : p.digitBias ≤ p.skipLimit)
    (h2 : p.alphaBias ≤ p.alphaLimit + 1) :
    (p.skipLimit ≤ b.toNat → (digitNibble p b).toNat + p.digitBias = b.toNat) ∧
    (p.alphaLimit < b.toNat → (alphaNibble p b).toNat + p.alphaBias = b.toNat) := by
  have hb := b.isLt
  simp only [digitNibble, alphaNibble, BitVec.toNat_ofNat]
  omega

end Sys2Proof.Machine
end

