-- ==== Sys2Proof/Laws/PerInstr.lean ====
section
/-! SUPPORT. Properties stated instruction by instruction. `TableRow`: the word of a well-formed operation
is a word of that operation's row of spec/opcode_table.json, `word & mask = match` with the row's own
mask and match, and (priority, R81) of no row before it. -/

namespace Sys2Proof.Laws.TableRow

/-- One row of the opcode table: its format, its match and its mask. -/
structure Row where
  byte : Bool
  value : Nat
  mask : Nat
  deriving DecidableEq, Repr

/-- The rows of spec/opcode_table.json, transcribed; `byte` is the format `BYTE8`. -/
def row : Instr → Row
  | .nibDigit _ => ⟨true, 0x30, 0xF0⟩
  | .nibSkip _ => ⟨true, 0x00, 0xC0⟩
  | .nibAt => ⟨true, 0x40, 0xFF⟩
  | .nibAlpha _ => ⟨true, 0x00, 0x00⟩
  | .sOpen => ⟨false, 0x0, 0xF⟩
  | .sConfig => ⟨false, 0x1, 0xF⟩
  | .sGolive => ⟨false, 0x2, 0xF⟩
  | .sStart => ⟨false, 0x3, 0xF⟩
  | .sWaitHb => ⟨false, 0x4, 0xF⟩
  | .sFlush => ⟨false, 0x5, 0xF⟩
  | .sRewind => ⟨false, 0x6, 0xF⟩
  | .sFetch => ⟨false, 0x7, 0xF⟩
  | .sSend => ⟨false, 0x8, 0xF⟩
  | .sAckWait => ⟨false, 0x9, 0xF⟩
  | .sAckRead => ⟨false, 0xA, 0xF⟩
  | .sFailed => ⟨false, 0xB, 0xF⟩
  | .sClose => ⟨false, 0xC, 0xF⟩
  | .sDone => ⟨false, 0xD, 0xF⟩
  | .sAborted => ⟨false, 0xE, 0xF⟩
  | .reservedState0xF => ⟨false, 0xF, 0xF⟩

/-- The rows of higher priority in the same opcode map (R81; the rows of R82 do not overlap). -/
def before : Instr → List Row
  | .nibSkip _ => [⟨true, 0x30, 0xF0⟩]
  | .nibAt => [⟨true, 0x30, 0xF0⟩, ⟨true, 0x00, 0xC0⟩]
  | .nibAlpha _ => [⟨true, 0x30, 0xF0⟩, ⟨true, 0x00, 0xC0⟩, ⟨true, 0x40, 0xFF⟩]
  | _ => []

/-- A word matches a row. -/
def Row.matches (r : Row) : CodeWord → Bool
  | .byte8 b => r.byte && b.toNat &&& r.mask == r.value
  | .state4 c => !r.byte && c.toNat &&& r.mask == r.value

/-- The word of a well-formed operation matches its row and no earlier one. -/
def Statement (i : Instr) : Prop :=
  i.WellFormed → (row i).matches (encode i) = true ∧
    ∀ r ∈ before i, r.matches (encode i) = false

theorem nibDigit (b : Byte) : Statement (.nibDigit b) := by
  unfold Statement
  revert b
  decide

theorem nibSkip (b : Byte) : Statement (.nibSkip b) := by
  unfold Statement
  revert b
  decide

theorem nibAt : Statement .nibAt := by
  unfold Statement
  decide

theorem nibAlpha (b : Byte) : Statement (.nibAlpha b) := by
  unfold Statement
  revert b
  decide

theorem sOpen : Statement .sOpen := by
  unfold Statement
  decide

theorem sConfig : Statement .sConfig := by
  unfold Statement
  decide

theorem sGolive : Statement .sGolive := by
  unfold Statement
  decide

theorem sStart : Statement .sStart := by
  unfold Statement
  decide

theorem sWaitHb : Statement .sWaitHb := by
  unfold Statement
  decide

theorem sFlush : Statement .sFlush := by
  unfold Statement
  decide

theorem sRewind : Statement .sRewind := by
  unfold Statement
  decide

theorem sFetch : Statement .sFetch := by
  unfold Statement
  decide

theorem sSend : Statement .sSend := by
  unfold Statement
  decide

theorem sAckWait : Statement .sAckWait := by
  unfold Statement
  decide

theorem sAckRead : Statement .sAckRead := by
  unfold Statement
  decide

theorem sFailed : Statement .sFailed := by
  unfold Statement
  decide

theorem sClose : Statement .sClose := by
  unfold Statement
  decide

theorem sDone : Statement .sDone := by
  unfold Statement
  decide

theorem sAborted : Statement .sAborted := by
  unfold Statement
  decide

theorem reservedState0xF : Statement .reservedState0xF := by
  unfold Statement
  decide

end Sys2Proof.Laws.TableRow
end

