-- ==== Sys2Proof/Laws/Runs.lean ====
section
/-! SUPPORT. Runs of several steps, one step at a time. -/

namespace Sys2Proof.Machine

/-- A run of one more step is the run from the step's next state. -/
theorem run_succ {s t : State} (k : Nat) (h : step s = .next t) :
    Host.Core.run Sys2Proof.core (k + 1) s = Host.Core.run Sys2Proof.core k t := by
  simp only [Host.Core.run, show Sys2Proof.core.step s = .next t from h]

/-- A run can be cut after any number of steps that all succeed. -/
theorem run_add {s t : State} (j k : Nat) (h : Host.Core.run Sys2Proof.core j s = .next t) :
    Host.Core.run Sys2Proof.core (j + k) s = Host.Core.run Sys2Proof.core k t := by
  induction j generalizing s with
  | zero =>
    cases (show (Host.Outcome.next s : Host.Outcome State Fault Refusal) = .next t from h)
    rw [Nat.zero_add]
  | succ j ih =>
    cases hs : step s with
    | next s' =>
      rw [run_succ j hs] at h
      rw [Nat.succ_add, run_succ (j + k) hs, ih h]
    | fault f => simp [Host.Core.run, show Sys2Proof.core.step s = .fault f from hs] at h
    | refused r => simp [Host.Core.run, show Sys2Proof.core.step s = .refused r from hs] at h

/-- A step that changes nothing can be taken any number of times. -/
theorem run_fixed {s : State} (k : Nat) (h : step s = .next s) :
    Host.Core.run Sys2Proof.core k s = .next s := by
  induction k with
  | zero => rfl
  | succ k ih => rw [run_succ k h, ih]

end Sys2Proof.Machine
end

