-- ==== Sys2Proof/Laws/Safety.lean ====
section
/-! SUPPORT. The trace functions of Safety.lean when one exchange is appended, and the sends of a trace
piece by piece. -/

namespace Sys2Proof.Machine

@[simp] theorem isSend_send (id dlc : Nat) (data : List Byte) (t : Timeout) :
    (Request.send id dlc data t).isSend = true := rfl
@[simp] theorem isSend_openCh : Request.openCh.isSend = false := rfl
@[simp] theorem isSend_configure (n : Nat) : (Request.configure n).isSend = false := rfl
@[simp] theorem isSend_goLive : Request.goLive.isSend = false := rfl
@[simp] theorem isSend_recvMatch (id : Nat) (t : Timeout) :
    (Request.recvMatch id t).isSend = false := rfl
@[simp] theorem isSend_recv (t : Timeout) : (Request.recv t).isSend = false := rfl
@[simp] theorem isSend_flush : Request.flush.isSend = false := rfl
@[simp] theorem isSend_closeCh : Request.closeCh.isSend = false := rfl
@[simp] theorem isSend_imgRewind : Request.imgRewind.isSend = false := rfl
@[simp] theorem isSend_imgNext : Request.imgNext.isSend = false := rfl
@[simp] theorem isSend_dataMessage (s : State) : s.dataMessage.isSend = true := rfl
@[simp] theorem isSend_startCommand (s : State) : s.startCommand.isSend = true := rfl
@[simp] theorem isSend_frameMessage (p : Params) (f : Frame) :
    (frameMessage p f).isSend = true := rfl

/-- The data message is the message of the frame register. -/
theorem dataMessage_eq (s : State) : s.dataMessage = frameMessage s.params s.frame := rfl

/-! ### One more exchange -/

@[simp] theorem streamed_append (tr : List Exchange) (e : Exchange) :
    streamed (tr ++ [e]) = (streamed tr || e.req == .imgRewind) := by
  simp [streamed]

/-- A rewind begins a Streaming phase. -/
theorem sinceRewind_rewind (tr : List Exchange) (r : Response) :
    sinceRewind (tr ++ [⟨.imgRewind, r⟩]) = [] := by
  induction tr with
  | nil => rfl
  | cons e tr ih => simp [sinceRewind, ih]

/-- Any other exchange belongs to the phase that is under way. -/
theorem sinceRewind_append (tr : List Exchange) (e : Exchange) (h : e.req ≠ .imgRewind) :
    sinceRewind (tr ++ [e]) = sinceRewind tr ++ [e] := by
  induction tr with
  | nil => simp [sinceRewind, h]
  | cons a tr ih =>
    have hany : ((tr ++ [e]).any fun x => x.req == .imgRewind) =
        tr.any fun x => x.req == .imgRewind := by
      simp [h]
    simp only [List.cons_append, sinceRewind, hany, ih]
    split
    · rfl
    · split <;> rfl

theorem recordsSent_rewind (tr : List Exchange) (r : Response) :
    recordsSent (tr ++ [⟨.imgRewind, r⟩]) = 0 := by
  simp [recordsSent, sinceRewind_rewind]

theorem recordsSent_append (tr : List Exchange) (e : Exchange) (h : e.req ≠ .imgRewind) :
    recordsSent (tr ++ [e]) = recordsSent tr + if e.acceptedSend then 1 else 0 := by
  simp [recordsSent, sinceRewind_append tr e h, List.countP_singleton]

/-- A Streaming phase begins at `CNT_INIT` (R180). -/
theorem nextCounter_rewind (p : Params) (tr : List Exchange) (r : Response) :
    nextCounter p (tr ++ [⟨.imgRewind, r⟩]) = p.cntInit := by
  simp [nextCounter, recordsSent_rewind]

/-- An accepted record advances the counter (R185); nothing else but a rewind changes it. -/
theorem nextCounter_append (p : Params) (tr : List Exchange) (e : Exchange)
    (h : e.req ≠ .imgRewind) : nextCounter p (tr ++ [e]) =
      if e.acceptedSend then nextCount p (nextCounter p tr) else nextCounter p tr := by
  rw [nextCounter, recordsSent_append tr e h]
  split
  · exact Function.iterate_succ_apply' _ _ _
  · rfl

/-- The counter as a number: `CNT_INIT` plus the records accepted, modulo 2^`CNT_W` (R23, R185). -/
theorem nextCounter_eq (p : Params) (tr : List Exchange) (h : p.cntInit < 2 ^ p.cntW) :
    nextCounter p tr = (p.cntInit + recordsSent tr) % 2 ^ p.cntW := by
  rw [nextCounter]
  generalize recordsSent tr = n
  induction n with
  | zero => simp [Nat.mod_eq_of_lt h]
  | succ n ih => rw [Function.iterate_succ_apply', ih, nextCount, Nat.mod_add_mod, Nat.add_assoc]

/-- Before the first Streaming phase every `SEND` is a start command. -/
theorem startCommands_setup (tr : List Exchange) (e : Exchange) (h : streamed tr = false) :
    startCommands (tr ++ [e]) = startCommands tr + if e.req.isSend then 1 else 0 := by
  have hall : ∀ a ∈ tr, (a.req != .imgRewind) = true := by
    simpa [streamed] using h
  simp only [startCommands, List.takeWhile_append_of_pos hall, List.countP_append]
  rw [List.takeWhile_eq_self_iff.mpr hall]
  by_cases he : e.req = .imgRewind
  · simp [List.takeWhile, he]
  · have hb : (e.req != .imgRewind) = true := by simpa using he
    simp [List.takeWhile, hb, List.countP_singleton]

/-- From the first Streaming phase on, none is. -/
theorem startCommands_streamed (tr : List Exchange) (e : Exchange) (h : streamed tr = true) :
    startCommands (tr ++ [e]) = startCommands tr := by
  induction tr with
  | nil => simp [streamed] at h
  | cons a tr ih =>
    by_cases ha : a.req = .imgRewind
    · simp [startCommands, ha]
    · have ht : streamed tr = true := by simpa [streamed, ha] using h
      have := ih ht
      simp only [startCommands] at this ⊢
      simp [ha, List.countP_cons, this]

/-- An entry of a trace with one more exchange is an entry of the trace, or the new one. -/
theorem split_append {tr pre post : List Exchange} {x e : Exchange}
    (h : tr ++ [x] = pre ++ e :: post) :
    (∃ post', post = post' ++ [x] ∧ tr = pre ++ e :: post') ∨ (post = [] ∧ pre = tr ∧ e = x) := by
  rcases List.eq_nil_or_concat post with rfl | ⟨post', y, rfl⟩
  · right
    have := List.append_inj' h rfl
    exact ⟨rfl, this.1.symm, by simpa using this.2.symm⟩
  · left
    have h' : tr ++ [x] = (pre ++ e :: post') ++ [y] := by simpa using h
    have := List.append_inj' h' rfl
    exact ⟨post', by simpa using this.2.symm, this.1⟩

/-! ### What a phase should send -/

@[simp] theorem sendsOf_append (a b : List Exchange) : sendsOf (a ++ b) = sendsOf a ++ sendsOf b := by
  simp [sendsOf]

@[simp] theorem sendsOf_cons (e : Exchange) (tr : List Exchange) :
    sendsOf (e :: tr) = (if e.req.isSend then [e] else []) ++ sendsOf tr := by
  cases h : e.req.isSend <;> simp [sendsOf, h]

@[simp] theorem sendsOf_nil : sendsOf [] = [] := rfl

@[simp] theorem sendsOf_replicate (n : Nat) (e : Exchange) (h : e.req.isSend = true) :
    sendsOf (List.replicate n e) = List.replicate n e := by
  simp [sendsOf, h]

@[simp] theorem sendsFor_cons (p : Params) (f : Frame) (fs : List Frame) (n : Nat)
    (ns : List Nat) :
    sendsFor p (f :: fs) (n :: ns) =
      List.replicate n ⟨frameMessage p f, .fail⟩ ++ ⟨frameMessage p f, .ok⟩ ::
        sendsFor p fs ns := by
  simp [sendsFor]

@[simp] theorem sendsFor_nil (p : Params) (fs : List Frame) : sendsFor p fs [] = [] := by
  simp [sendsFor]

@[simp] theorem answersFor_cons (n : Nat) (ns : List Nat) :
    answersFor (n :: ns) = List.replicate n .fail ++ .ok :: answersFor ns := by
  simp [answersFor]

@[simp] theorem answersFor_nil : answersFor [] = [] := rfl

/-- The nibble sequence of an image, byte by byte (R126). -/
theorem nibbles_cons (p : Params) (b : Byte) (bs : List Byte) :
    nibbles p (b :: bs) = (match dec p b with
      | .skip => []
      | .nib v => [v]) ++ nibbles p bs := by
  cases h : dec p b <;> simp [nibbles, h]

end Sys2Proof.Machine
end

