-- ==== Sys2Proof/Tests/Slice0.lean ====
section
/-! SUPPORT. The model's own tests. Every expected value comes from the spec: its tables, its worked
examples (95_test_vectors.md, named by their ids), or its rules worked by hand. The last part gives,
for each obligation with hypotheses, a concrete case that meets them. -/

namespace Sys2Proof.Tests

open Sys2Proof Sys2Proof.Machine

/-! ## Helpers -/

/-- A check on the next state of an outcome. -/
def after (o : Host.Outcome State Fault Refusal) (f : State → Bool) : Bool :=
  match o with
  | .next t => f t
  | .fault _ => false
  | .refused _ => false

/-- The CBPE-1 parameters with numbers in the two open places, so that tests can compare states. -/
def params : Params := { Params.cbpe1 with bitrate := 0, timeUnit := 0 }

/-- A state in the middle of a run: an operation, the handle held, and the transport's answers. -/
def run (code : StateCode) (script : List Response) : State :=
  { State.reset with state := code, link := true, script := script, params := params }

/-- The streaming registers of vector V4.6 with one image byte to come. -/
def group3 (b : Byte) : State :=
  { run Code.sFetch [] with
    cnt := 1, nib0 := 15, nib1 := 0, nib2 := 0, nibCnt := 3, image := [b] }

/-- The first frame of program P1 about to be sent. -/
def send (script : List Response) : State :=
  { run Code.sSend script with cnt := 1, frame := 0x0001F00A }

/-! ## Well-formedness: each check refuses its ill-formed term -/

theorem test_check_digit : (Instr.nibDigit 0x2F).check = some .digitRange := by decide
theorem test_check_skip : (Instr.nibSkip 0x30).check = some .skipRange := by decide
theorem test_check_alpha : (Instr.nibAlpha 0x40).check = some .alphaRange := by decide
theorem test_check_idWidth : ({ params with idW := 12 } : Params).check = some .idWidth := by decide
theorem test_check_idRange : ({ params with hbId := 0x800 } : Params).check = some .idRange := by
  decide
theorem test_check_biasRange : ({ params with alphaBias := 66 } : Params).check = some .biasRange := by
  decide
theorem test_check_ackIndex : ({ params with ackIndex := 8 } : Params).check = some .ackIndexRange := by
  decide
theorem test_check_count : ({ params with cntW := 0 } : Params).check = some .countRange := by decide
theorem test_check_dlc : ({ params with dataDlc := 5 } : Params).check = some .dlcRange := by decide
theorem test_check_idW29 : ({ params with idW := 29 } : Params).WellFormed := by decide

/-! ## Decoding: the words of the tables, bit by bit (R81, R82) -/

theorem test_decode_nibDigit : decode (.byte8 0b00110000) = .nibDigit 0x30 ∧
    decode (.byte8 0b00111111) = .nibDigit 0x3F := by decide
theorem test_decode_nibSkip : decode (.byte8 0b00000000) = .nibSkip 0x00 ∧
    decode (.byte8 0b00101111) = .nibSkip 0x2F := by decide
theorem test_decode_nibAt : decode (.byte8 0b01000000) = .nibAt := by decide
theorem test_decode_nibAlpha : decode (.byte8 0b01000001) = .nibAlpha 0x41 ∧
    decode (.byte8 0b11111111) = .nibAlpha 0xFF := by decide
theorem test_decode_sOpen : decode (.state4 0b0000) = .sOpen := by decide
theorem test_decode_sConfig : decode (.state4 0b0001) = .sConfig := by decide
theorem test_decode_sGolive : decode (.state4 0b0010) = .sGolive := by decide
theorem test_decode_sStart : decode (.state4 0b0011) = .sStart := by decide
theorem test_decode_sWaitHb : decode (.state4 0b0100) = .sWaitHb := by decide
theorem test_decode_sFlush : decode (.state4 0b0101) = .sFlush := by decide
theorem test_decode_sRewind : decode (.state4 0b0110) = .sRewind := by decide
theorem test_decode_sFetch : decode (.state4 0b0111) = .sFetch := by decide
theorem test_decode_sSend : decode (.state4 0b1000) = .sSend := by decide
theorem test_decode_sAckWait : decode (.state4 0b1001) = .sAckWait := by decide
theorem test_decode_sAckRead : decode (.state4 0b1010) = .sAckRead := by decide
theorem test_decode_sFailed : decode (.state4 0b1011) = .sFailed := by decide
theorem test_decode_sClose : decode (.state4 0b1100) = .sClose := by decide
theorem test_decode_sDone : decode (.state4 0b1101) = .sDone := by decide
theorem test_decode_sAborted : decode (.state4 0b1110) = .sAborted := by decide
theorem test_decode_reserved : decode (.state4 0b1111) = .reservedState0xF := by decide

/-- The table words of the host's numbering (log entry 14). -/
theorem test_decodeTableWord :
    decodeTableWord 8 0x37 = some (.nibDigit 0x37) ∧ decodeTableWord 8 0x07 = some .sFetch ∧
    decodeTableWord 4 0xF = some .reservedState0xF ∧ decodeTableWord 8 0x100 = none ∧
    decodeTableWord 4 0x10 = none ∧ decodeTableWord 16 0x37 = none := by decide

/-- The very next step runs the operation of the word: a byte becomes a nibble of `S_FETCH`. -/
theorem test_withFetchWord_byte :
    after (step (State.reset.withFetchWord 8 0x37)) (fun t => t.nib0 == 7 && t.nibCnt == 1) = true := by
  decide
theorem test_withFetchWord_state :
    after (step (State.reset.withFetchWord 8 0x06)) (fun t => t.state == Code.sFetch && t.cnt == 1) =
      true := by decide

/-! ## The decoder (V1) -/

theorem test_dec_V1 :
    dec params 0x2F = .skip ∧ dec params 0x30 = .nib 0 ∧ dec params 0x39 = .nib 9 ∧
    dec params 0x3F = .nib 15 ∧ dec params 0x40 = .nib 16 ∧ dec params 0x41 = .nib 10 ∧
    dec params 0x46 = .nib 15 ∧ dec params 0x47 = .nib 16 ∧ dec params 0x61 = .nib 42 ∧
    dec params 0x80 = .nib 73 ∧ dec params 0xFF = .nib 200 := by decide
theorem test_valid_V1 : valid 15 = true ∧ valid 16 = false := by decide

/-! ## The composer (V2) -/

theorem test_pack_V2 :
    pack 15 0 = 0xF0 ∧ pack 1 16 = 0x20 ∧ pack 16 0 = 0x00 ∧ pack 0 200 = 0xC8 ∧
    pack 200 200 = 0x48 ∧ pack 42 47 = 0xCF := by decide
theorem test_compose_V2 :
    compose 0x0100 0xAB 0xCD = 0x0100ABCD ∧
    frameBytes (compose 0x00FF 0x12 0x34) = [0x00, 0xFF, 0x12, 0x34] ∧
    compose 0xFFFF 0xFF 0xFF = 0xFFFFFFFF := by decide
theorem test_group_V2 :
    group 1 15 0 0 10 = 0x0001F00A ∧ group 0x1234 16 16 200 200 = 0x12341048 := by decide

/-! ## One step each (V3 to V5) -/

theorem test_nibDigit : after (exec (.nibDigit 0x3A) (run Code.sFetch [])) (fun t =>
    t.nib0 == 10 && t.nibCnt == 1 && t.imgPos == 1) = true := by decide
theorem test_nibDigit_reject : after (exec (.nibDigit 0x3A)
    { run Code.sFetch [] with cfg := { CfgInputs.default with check := true } }) (fun t =>
    t.nib0 == 10 && t.nibCnt == 1 && t.cause == 0) = true := by decide
theorem test_nibSkip : after (exec (.nibSkip 0x0D) { run Code.sFetch [] with nibCnt := 1 }) (fun t =>
    t.nibCnt == 1 && t.imgPos == 1 && t.state == Code.sFetch) = true := by decide
theorem test_nibAt : after (exec .nibAt { run Code.sFetch [] with nibCnt := 1 }) (fun t =>
    t.nib1 == 16 && t.nibCnt == 2) = true := by decide
theorem test_nibAt_reject : after (exec .nibAt
    { run Code.sFetch [] with cfg := { CfgInputs.default with check := true } }) (fun t =>
    t.cause == 0x6 && t.state == Code.sClose && t.nibCnt == 0) = true := by decide
/-- V4.6. -/
theorem test_nibAlpha_group : after (exec (.nibAlpha 0x41) (group3 0x41)) (fun t =>
    t.frame == 0x0001F00A && t.nibCnt == 0 && t.state == Code.sSend && t.cnt == 1) = true := by decide
/-- V4.9. -/
theorem test_nibAlpha_reject : after (exec (.nibAlpha 0x47)
    { run Code.sFetch [] with nibCnt := 1, cfg := { CfgInputs.default with check := true } })
    (fun t => t.cause == 0x6 && t.state == Code.sClose && t.nibCnt == 1 && t.nib1 == 0) = true := by
  decide

/-- V3.1. -/
theorem test_sOpen_ok : after (exec .sOpen { State.reset with script := [.ok] }) (fun t =>
    t.link && t.state == Code.sConfig) = true := by decide
/-- V3.2. -/
theorem test_sOpen_fail : after (exec .sOpen { State.reset with script := [.fail] }) (fun t =>
    t.cause == 0x1 && t.state == Code.sAborted && t.reportBytes == [0x12] && !t.link) = true := by
  decide
theorem test_sConfig_ok : after (exec .sConfig (run Code.sConfig [.ok])) (fun t =>
    t.state == Code.sGolive && t.cause == 0) = true := by decide
/-- V3.3. -/
theorem test_sConfig_fail : after (exec .sConfig (run Code.sConfig [.fail])) (fun t =>
    t.cause == 0x2 && t.state == Code.sClose && t.reports == []) = true := by decide
theorem test_sGolive_ok : after (exec .sGolive (run Code.sGolive [.ok])) (fun t =>
    t.state == Code.sStart) = true := by decide
/-- V3.4. -/
theorem test_sGolive_fail : after (exec .sGolive (run Code.sGolive [.fail])) (fun t =>
    t.cause == 0x3 && t.state == Code.sClose) = true := by decide
/-- V3.5 and V3.7. -/
theorem test_sStart_nodev :
    after (exec .sStart { run Code.sStart [] with
      cfg := { CfgInputs.default with bypass := true } }) (fun t => t.state == Code.sWaitHb) = true ∧
    after (exec .sStart (run Code.sStart [])) (fun t =>
      t.cause == 0x4 && t.state == Code.sClose && t.trace == []) = true := by decide
/-- V3.8. -/
theorem test_sStart_send : after (exec .sStart { run Code.sStart [.ok] with
    cfg := { CfgInputs.default with deviceId := 5 } }) (fun t => t.state == Code.sWaitHb &&
    t.trace == [⟨.send 5 8 [0xFF, 0xFF, 0xFF, 0xFF, 0xFF, 0xFF, 0xFF, 0xFF] (.units 10000), .ok⟩]) =
      true := by decide
/-- V3.11 and V3.12. -/
theorem test_sWaitHb :
    after (exec .sWaitHb (run Code.sWaitHb [.fail])) (fun t =>
      t.state == Code.sWaitHb && t.cause == 0 && t.reports == []) = true ∧
    after (exec .sWaitHb (run Code.sWaitHb [.ok])) (fun t => t.state == Code.sFlush &&
      t.trace == [⟨.recvMatch 2 .infinite, .ok⟩]) = true := by decide
/-- V3.14. -/
theorem test_sFlush : after (exec .sFlush (run Code.sFlush [.done])) (fun t =>
    t.state == Code.sRewind) = true := by decide
/-- V4.1. -/
theorem test_sRewind : after (exec .sRewind { run Code.sRewind [] with
    cnt := 7, nibCnt := 2, retry := 5, imgPos := 9 }) (fun t => t.cnt == 1 && t.nibCnt == 0 &&
    t.retry == 0 && t.imgPos == 0 && t.state == Code.sFetch) = true := by decide
/-- V4.7. -/
theorem test_sFetch_end : after (exec .sFetch { run Code.sFetch [] with nibCnt := 2 }) (fun t =>
    t.nibCnt == 0 && t.state == Code.sAckWait) = true := by decide
/-- V4.6 through `S_FETCH`. -/
theorem test_sFetch_group : after (exec .sFetch (group3 0x41)) (fun t =>
    t.frame == 0x0001F00A && t.state == Code.sSend && t.imgPos == 1) = true := by decide
/-- V4.12 and V4.19. -/
theorem test_sSend_ok :
    after (exec .sSend (send [.ok])) (fun t => t.cnt == 2 && t.retry == 0 &&
      t.state == Code.sFetch &&
      t.trace == [⟨.send 1 4 [0x00, 0x01, 0xF0, 0x0A] (.units 10000), .ok⟩]) = true ∧
    after (exec .sSend { send [.ok] with cnt := 0xFFFF }) (fun t => t.cnt == 0) = true := by decide
/-- V4.14, V4.16 and V4.17. -/
theorem test_sSend_fail :
    after (exec .sSend { send [.fail] with retry := 0xFFFFFFFF }) (fun t =>
      t.retry == 0xFFFFFFFF && t.state == Code.sSend) = true ∧
    after (exec .sSend { send [.fail] with
      retry := 1, cfg := { CfgInputs.default with retryLimit := 3 } }) (fun t =>
      t.retry == 2 && t.state == Code.sSend && t.cause == 0) = true ∧
    after (exec .sSend { send [.fail] with
      retry := 2, cfg := { CfgInputs.default with retryLimit := 3 } }) (fun t =>
      t.retry == 3 && t.state == Code.sFailed && t.cause == 0xB) = true := by decide
/-- V5.1 and V5.2. -/
theorem test_sAckWait :
    after (exec .sAckWait (run Code.sAckWait [.ok])) (fun t => t.state == Code.sAckRead) = true ∧
    after (exec .sAckWait (run Code.sAckWait [.fail])) (fun t =>
      t.cause == 0x8 && t.state == Code.sFailed) = true := by decide
/-- V5.5 and V5.4. -/
theorem test_sAckRead_accepted :
    after (exec .sAckRead { run Code.sAckRead [.msg 0x7FF 3 [0x00, 0x00, 0x80]] with cause := 0xA })
      (fun t => t.cause == 0 && t.state == Code.sClose) = true ∧
    after (exec .sAckRead (run Code.sAckRead
      [.msg 2 8 [0x12, 0x34, 0x80, 0xFF, 0xFF, 0xFF, 0xFF, 0xFF]])) (fun t =>
      t.cause == 0 && t.state == Code.sClose) = true := by decide
/-- V5.6, V5.8 and V5.10. -/
theorem test_sAckRead_failed :
    after (exec .sAckRead (run Code.sAckRead [.msg 2 3 [0x00, 0x00, 0x7F]])) (fun t =>
      t.cause == 0xA && t.state == Code.sFailed) = true ∧
    after (exec .sAckRead (run Code.sAckRead [.msg 2 2 [0x00, 0x80]])) (fun t =>
      t.cause == 0xA && t.state == Code.sFailed) = true ∧
    after (exec .sAckRead (run Code.sAckRead [.fail])) (fun t =>
      t.cause == 0x9 && t.state == Code.sFailed) = true := by decide
/-- V5.11. -/
theorem test_sFailed : after (exec .sFailed { run Code.sFailed [] with cause := 0x9 }) (fun t =>
    t.state == Code.sWaitHb && t.reportBytes == [0x91] && t.cause == 0x9 && t.link) = true := by
  decide
/-- V5.13. -/
theorem test_sClose_done : after (exec .sClose (run Code.sClose [.fail])) (fun t =>
    t.state == Code.sDone && !t.link && t.closeErr && t.reportBytes == [0x04]) = true := by decide
/-- V5.14. -/
theorem test_sClose_aborted : after (exec .sClose { run Code.sClose [.ok] with cause := 0x5 })
    (fun t => t.state == Code.sAborted && !t.link && !t.closeErr && t.reportBytes == [0x52]) =
      true := by decide
/-- V5.16. -/
theorem test_halted :
    step (run Code.sDone [.ok]) = .next (run Code.sDone [.ok]) ∧
    step (run Code.sAborted [.ok]) = .next (run Code.sAborted [.ok]) := ⟨rfl, rfl⟩
/-- V6.5. -/
theorem test_reserved : step (run Code.reserved []) = .fault .illegalState := rfl
/-- V6.7. -/
theorem test_illegalResponse :
    step (run Code.sWaitHb [.msg 2 0 []]) = .refused .illegalResponse := rfl
/-- V6.6. -/
theorem test_reset_in_send : after (step { send [.ok] with
    host := [.reset CfgInputs.default [0x31] [.fail] .silent] }) (fun t => t.state == Code.sOpen &&
    t.frame == 0 && t.cnt == 0 && !t.link && t.script == [.fail] && t.image == [0x31]) = true := by
  decide
/-- R251: a reset ends a wait, and the transport can answer the `OPEN` after it. -/
theorem test_reset_ends_wait :
    after (step (run Code.sWaitHb [])) (fun s => s == run Code.sWaitHb []) = true ∧
    after (step { run Code.sWaitHb [] with host := [.reset CfgInputs.default [] [.ok] .silent] })
      (fun s => after (step s) (fun t => t.state == Code.sConfig && t.link) == true) = true := by
  decide
/-- R186, R266: a transport that fails for ever has the frame resent for ever: the answers are the same
after the step. -/
theorem test_fail_for_ever : after (step { send [] with later := .cycle .fail [] }) (fun t =>
    t.state == Code.sSend && t.retry == 1 && t.script == [] && t.later == .cycle .fail []) = true := by
  decide
/-- R7: the counter wraps at `CNT_W` bits. -/
theorem test_count_width : after (exec .sSend { send [.ok] with
    cnt := 0xFF, params := { params with cntW := 8 } }) (fun t => t.cnt == 0) = true := by decide

/-! ## What the host reads (V6) -/

theorem test_status_V6 :
    State.reset.status = 0x00000000 ∧
    ({ run Code.sFetch [] with cnt := 1, nibCnt := 3 } : State).status = 0x00013107 ∧
    ({ run Code.sWaitHb [] with cnt := 2, cause := 0xA } : State).status = 0x000201A4 := by decide
theorem test_report_V6 :
    Report.encode ⟨.success, 0x0, true⟩ = 0x04 ∧ Report.encode ⟨.fail, 0xB, false⟩ = 0xB1 ∧
    Report.encode ⟨.fatal, 0x6, true⟩ = 0x66 := by decide

/-! ## The trace notation (R97), against lines of 95_test_vectors.md -/

/-- P1, step 4. -/
theorem test_spell_request : Request.spell params
    (.send 5 8 (List.replicate 8 0xFF) (.units 10000)) =
    "SEND id=0x005 dlc=8 data=FF FF FF FF FF FF FF FF t=10000" := by decide
/-- P1, step 20. -/
theorem test_spell_step : spellStep (run Code.sClose [.ok])
    { run Code.sDone [] with
      link := false, reports := [⟨.success, 0, false⟩], trace := [⟨.closeCh, .ok⟩] } =
    "S_CLOSE: CLOSE => OK ; LINK=0, CLOSE_ERR=0, STATE=S_DONE, report SUCCESS(NONE)" := by decide

/-! ## Witnesses: for each obligation with hypotheses, a case that meets them -/

/-- The image "12", STX, "345" and one failure of its only record. -/
def phase : State :=
  { run Code.sRewind (answersFor [1] ++ [.ok]) with image := [0x31, 0x32, 0x02, 0x33, 0x34, 0x35] }

theorem test_witness_EncodeThenDecode :
    (Instr.nibDigit 0x30).WellFormed ∧ (Instr.nibDigit 0x3F).WellFormed ∧
    (Instr.nibSkip 0x00).WellFormed ∧ (Instr.nibSkip 0x2F).WellFormed ∧ Instr.nibAt.WellFormed ∧
    (Instr.nibAlpha 0x41).WellFormed ∧ (Instr.nibAlpha 0xFF).WellFormed ∧
    Instr.reservedState0xF.WellFormed := by decide
theorem test_witness_ByteClassTable :
    ((0x3F : Byte) &&& 0xF0 = 0x30) ∧ ((0x2F : Byte) &&& 0xF0 ≠ 0x30 ∧ (0x2F : Byte) &&& 0xC0 = 0) ∧
    ((0x40 : Byte) &&& 0xF0 ≠ 0x30 ∧ (0x40 : Byte) &&& 0xC0 ≠ 0 ∧ (0x40 : Byte) &&& 0xFF = 0x40) ∧
    ((0x41 : Byte) &&& 0xF0 ≠ 0x30 ∧ (0x41 : Byte) &&& 0xC0 ≠ 0 ∧ (0x41 : Byte) &&& 0xFF ≠ 0x40) ∧
    byteClass 0x30 = .digit ∧ byteClass 0x2F = .skip ∧ byteClass 0x40 = .atSign ∧
    byteClass 0x41 = .alpha := by decide
/-- The three cases of `S_START`, which exclude each other; each other code is its own case. -/
theorem test_witness_StateCodeTable :
    (run Code.sStart []).deviceId = 0 ∧ (run Code.sStart []).cfg.bypass = false ∧
    ({ run Code.sStart [] with cfg := ⟨0x7FF, false, false, 0⟩ } : State).deviceId = 0x7FF ∧
    ({ run Code.sStart [] with cfg := ⟨0x7FF, true, false, 0⟩ } : State).cfg.bypass = true ∧
    (run Code.sOpen []).state = 0x0 ∧ (run Code.reserved []).state = 0xF := by decide
theorem test_witness_DecoderValues :
    (0x2F : Byte).toNat < 48 ∧ 48 ≤ (0x30 : Byte).toNat ∧ (0x40 : Byte).toNat ≤ 64 ∧
    64 < (0x41 : Byte).toNat ∧ dec Params.cbpe1 0x46 = .nib 15 ∧ dec Params.cbpe1 0x47 = .nib 16 := by
  decide
theorem test_witness_ComposerLayout : (15 : Byte).toNat ≤ 15 ∧ (0 : Byte).toNat ≤ 15 := by decide
theorem test_witness_SessionViewTable :
    (0x0 : CauseCode) = noCause ∧ isFatalCode 0x1 ∧ isFatalCode 0x6 := by decide
theorem test_witness_ResetValues : ∃ t s cfg image sc l,
    t = State.reset ∨ t = State.hostReset s cfg image sc l :=
  ⟨State.reset, phase, CfgInputs.default, [], [], .silent, .inl rfl⟩
theorem test_witness_HostResetTakesPriority : ({ send [] with
    host := [.reset CfgInputs.default [] [.ok] (.free 0), .idle] } : State).host =
    .reset CfgInputs.default [] [.ok] (.free 0) :: [.idle] := rfl
theorem test_witness_StepRunsSelectedOperation :
    (send [.ok]).host = [] ∧ ({ send [.ok] with host := [.idle] } : State).host = .idle :: [] :=
  ⟨rfl, rfl⟩
theorem test_witness_FetchRunsDecodedByte :
    (group3 0x41).params.skipLimit = 48 ∧ (group3 0x41).params.alphaLimit = 64 ∧
    (group3 0x41).image[(group3 0x41).imgPos]? = some 0x41 ∧ (group3 0x41).state = Code.sFetch ∧
    (group3 0x41).host = [] := by decide
theorem test_witness_OpenResult :
    ({ State.reset with script := [.ok] } : State).script = .ok :: [] ∧
    ({ State.reset with script := [.fail] } : State).script = .fail :: [] ∧
    State.reset.link = false := by decide
/-- For `ConfigResult` and `GoLiveResult`. -/
theorem test_witness_ConfigResult :
    (run Code.sConfig [.ok]).script = .ok :: [] ∧ (run Code.sConfig [.fail]).script = .fail :: [] ∧
    (run Code.sConfig [.fail]).link = true := by decide
theorem test_witness_StartResult :
    ({ run Code.sStart [] with cfg := ⟨0, true, false, 0⟩ } : State).cfg.bypass = true ∧
    ((run Code.sStart []).cfg.bypass = false ∧ (run Code.sStart []).deviceId = 0) ∧
    (({ run Code.sStart [.ok] with cfg := ⟨0x7FF, false, false, 0⟩ } : State).deviceId ≠ 0 ∧
      (run Code.sStart [.ok]).script = .ok :: []) ∧
    (({ run Code.sStart [.fail] with cfg := ⟨1, false, false, 0⟩ } : State).deviceId ≠ 0 ∧
      (run Code.sStart [.fail]).script = .fail :: []) := by decide
/-- For `WaitHeartbeatResult` and `FlushResult`. -/
theorem test_witness_WaitHeartbeatResult :
    (run Code.sWaitHb [.ok]).script = .ok :: [] ∧ (run Code.sWaitHb [.fail]).script = .fail :: [] ∧
    (run Code.sFlush [.done]).script = .done :: [] ∧
    (run Code.sWaitHb []).supplied.script = [] := by decide
theorem test_witness_SkippedByteResult :
    (group3 0x2F).image[(group3 0x2F).imgPos]? = some 0x2F ∧
    (0x2F : Byte).toNat < (group3 0x2F).params.skipLimit := by decide
theorem test_witness_NibbleCollected :
    ((group3 0x41).image[(group3 0x41).imgPos]? = some 0x41 ∧
      dec (group3 0x41).params 0x41 = .nib 10) ∧
    (group3 0x41).nibCnt = 3 ∧ (group3 0x41).cfg.check = false ∧
    (digitNibble params 0x3F).toNat ≤ 15 ∧ (alphaNibble params 0x46).toNat ≤ 15 ∧
    (run Code.sFetch []).nibCnt = 0 ∧ ({ run Code.sFetch [] with nibCnt := 1 } : State).nibCnt = 1 ∧
    ({ run Code.sFetch [] with nibCnt := 2 } : State).nibCnt = 2 := by decide
theorem test_witness_MalformedNibbleAborts :
    15 < (digitNibble params 0x40).toNat ∧ 15 < (alphaNibble params 0x47).toNat ∧
    dec (group3 0x47).params 0x47 = .nib 16 ∧
    ({ group3 0x47 with cfg := ⟨0, true, true, 0⟩ } : State).cfg.check = true ∧
    (group3 0x47).link = true ∧ ({ group3 0x47 with link := false } : State).link = false := by decide
theorem test_witness_ImageEndResult :
    (run Code.sFetch []).image.length ≤ (run Code.sFetch []).imgPos := by decide
theorem test_witness_AcceptedFrameResult : (send [.ok]).script = .ok :: [] := by decide
/-- Each clause of `FailedSendResult`: no limit, below the limit, the limit reached, saturation. -/
theorem test_witness_FailedSendResult :
    (send [.fail]).script = .fail :: [] ∧
    (1 : BitVec 32).toNat = min ((send [.fail]).retry.toNat + 1) (2 ^ 32 - 1) ∧
    (send [.fail]).cfg.retryLimit = 0 ∧ (1 : BitVec 32).toNat < (2 : BitVec 32).toNat ∧
    ((1 : BitVec 32) ≠ 0 ∧ (1 : BitVec 32).toNat ≤ (1 : BitVec 32).toNat) ∧
    (0xFFFFFFFF : BitVec 32).toNat = min ((0xFFFFFFFF : BitVec 32).toNat + 1) (2 ^ 32 - 1) := by decide
theorem test_witness_AckWaitResult :
    (run Code.sAckWait [.ok]).script = .ok :: [] ∧
    (run Code.sAckWait [.fail]).script = .fail :: [] := by decide
/-- Both clauses of `AckReadResult` at the shortest lengths, and the FAIL clause. -/
theorem test_witness_AckReadResult :
    ((0x7FF : Nat) < 2 ^ params.idW ∧ (3 : Nat) ≤ 8 ∧ ([0, 0, 0x80] : List Byte).length = 3 ∧
      params.ackIndex < 3 ∧ ([0, 0, 0x80] : List Byte)[params.ackIndex]? = some params.ackValue) ∧
    ((2 : Nat) ≤ params.ackIndex) ∧
    (([0, 0, 0x7F] : List Byte)[params.ackIndex]? ≠ some params.ackValue) ∧
    (run Code.sAckRead [.fail]).script = .fail :: [] := by decide
theorem test_witness_AckDependsOnOneByte :
    ([0, 0, 0x80] : List Byte)[params.ackIndex]? = ([1, 2, 0x80, 3] : List Byte)[params.ackIndex]? ∧
    ∃ t, exec .sAckRead { run Code.sAckRead [] with script := .msg 2 3 [0, 0, 0x80] :: [] } =
      .next t :=
  ⟨by decide, _, rfl⟩
theorem test_witness_CloseResult :
    (run Code.sClose [.ok]).script = .ok :: [] ∧ (run Code.sClose [.fail]).script = .fail :: [] ∧
    (run Code.sClose [.ok]).cause = 0x0 ∧
    ({ run Code.sClose [.ok] with cause := 0x2 } : State).cause ≠ 0x0 := by decide
theorem test_witness_ReservedStateFaults :
    (run Code.reserved []).host = [] ∧ (run Code.reserved []).state = 0xF := by decide
theorem test_witness_FatalPath :
    (run Code.sConfig []).link = true ∧ State.reset.link = false := by decide
theorem test_witness_FailuresArePrecise : ∃ t, exec .sSend { send [.fail] with
      cfg := { CfgInputs.default with retryLimit := 1 } } = .next t ∧ t.cause ≠ (send []).cause ∧
    t.cause ≠ noCause ∧ t.retry ≠ (send []).retry :=
  ⟨_, rfl, by decide, by decide, by decide⟩
theorem test_witness_FailuresArePrecise_report : ∃ t,
    exec .sOpen { State.reset with script := [.fail] } = .next t ∧ t.cause ≠ State.reset.cause ∧
    t.cause ≠ noCause ∧ t.reports ≠ State.reset.reports :=
  ⟨_, rfl, by decide, by decide, by decide⟩
theorem test_witness_NoFatalAfterHeartbeat : ∃ t,
    exec .sClose { run Code.sClose [.ok] with cause := 0x2 } = .next t ∧ isFatalCode t.cause ∧
    (run Code.sClose [.ok]).cfg.check = false :=
  ⟨_, rfl, by decide, by decide⟩
theorem test_witness_IllegalResponseRefused :
    (run Code.sWaitHb [.done]).request = some (.recvMatch 2 .infinite) ∧
    Request.toTransport (.recvMatch 2 .infinite) = true ∧
    Request.allows params (.recvMatch 2 .infinite) .done = false ∧
    Request.allows params .flush .done = true ∧
    Request.allows params (.recv (.units 10000)) (.msg 0x7FF 8 [0, 0, 0, 0, 0, 0, 0, 0]) = true ∧
    Request.allows params (.recv (.units 10000)) (.msg 0x800 0 []) = false := by decide
/-- Each clause of `AnswersTakenInOrder`; the free draws leave the two answers of `Config.freeAnswer`
open, so of their two clauses one applies, and it is not known which. -/
theorem test_witness_AnswersTakenInOrder :
    (send [.ok]).script ≠ [] ∧ (send []).later = .silent ∧
    ({ send [] with later := .cycle .fail [] } : State).supplied.script = [.fail] ∧
    ({ send [] with later := .cycle .fail [] } : State).request =
      some (.send 1 4 [0x00, 0x01, 0xF0, 0x0A] (.units 10000)) ∧
    ({ send [] with later := .free 0 } : State).script = [] := by decide
theorem test_witness_AnswersTakenInOrder_free :
    Config.freeAnswer 0 = none ∨ ∃ r, Config.freeAnswer 0 = some r := by
  cases Config.freeAnswer 0 with
  | none => exact .inl rfl
  | some r => exact .inr ⟨r, rfl⟩
theorem test_witness_UnansweredRequestHangs :
    (run Code.sWaitHb []).host = [] ∧ (run Code.sWaitHb []).supplied.script = [] ∧
    (run Code.sWaitHb []).request = some (.recvMatch 2 .infinite) ∧
    Request.toTransport (.recvMatch 2 .infinite) = true := by decide
theorem test_witness_HaltedUntilReset :
    (run Code.sDone []).host = [] ∧ (run Code.sDone []).state = Code.sDone ∧
    (run Code.sAborted []).state = Code.sAborted := by decide
/-- For `StopsOnlyOnReservedOrIllegal` and `StepIssuesTableRequest`. -/
theorem test_witness_StepIssuesTableRequest :
    (send [.ok]).host = [] ∧ ∃ t, step (send [.ok]) = .next t ∧ t.trace ≠ (send [.ok]).trace :=
  ⟨rfl, _, rfl, by decide⟩
theorem test_witness_EnvironmentFrame : ∃ t,
    exec .sClose (run Code.sClose [.ok]) = .next t ∧ t.script ≠ [.ok] ∧ t.reports ≠ [] :=
  ⟨_, rfl, by decide, by decide⟩
/-- Each premise of `RegisterWriters`. -/
theorem test_witness_RegisterWriters :
    after (exec .sSend (send [.ok])) (fun t => t.cnt != (send []).cnt) = true ∧
    after (exec (.nibDigit 0x37) (run Code.sFetch [])) (fun t =>
      t.nib0 != 0 && t.nibCnt != 0) = true ∧
    after (exec .sSend (send [.fail])) (fun t => t.retry != 0) = true ∧
    after (exec .sClose (run Code.sClose [.fail])) (fun t => !t.link && t.closeErr) = true ∧
    after (exec .sAckRead { run Code.sAckRead [.msg 2 3 [0, 0, 0x80]] with cause := 0xA }) (fun t =>
      t.cause == noCause) = true ∧
    after (exec .sFetch (group3 0x41)) (fun t => t.frame != 0 && t.nibCnt != 3) = true ∧
    after (exec .sFetch { group3 0x47 with cfg := { CfgInputs.default with check := true } })
      (fun t => t.cause == 0x6) = true := by decide
/-- `takesNibble` of `S_FETCH`: at a digit it holds, at a skipped byte it does not. -/
theorem test_takesNibble : takesNibble .sFetch (group3 0x41) ∧ ¬ takesNibble .sFetch (group3 0x02) := by
  refine ⟨.inr (.inr ⟨rfl, 0x41, 10, by decide, by decide⟩), ?_⟩
  rintro (h | ⟨b, h | h⟩ | ⟨-, b, v, hb, hd⟩)
  · cases h
  · cases h
  · cases h
  · obtain rfl : (0x02 : Byte) = b := by simpa [group3, run, State.reset] using hb
    rw [show dec (group3 0x02).params 0x02 = .skip by decide] at hd
    cases hd

/-! ### Invariants -/

/-- A member of a list is one of a decomposition. -/
theorem mem_of_split {tr pre post : List Exchange} {e : Exchange} (h : tr = pre ++ e :: post) :
    e ∈ tr := by
  rw [h]
  simp

theorem test_witness_RegisterInvariantKept : (send [.fail]).Inv ∧ ∃ t, step (send [.fail]) = .next t :=
  ⟨⟨by decide, by decide, by decide, by decide, by decide, by decide, by decide, by decide,
    by decide, by decide⟩, _, rfl⟩

/-- A run about to end after a failed attempt (program P2). -/
def closing : State := { run Code.sClose [.fail] with reports := [⟨.fail, 0xA, false⟩] }

theorem test_witness_ReportLogKept :
    closing.Inv ∧ closing.ReportInv ∧ ∃ t, step closing = .next t :=
  ⟨⟨by decide, by decide, by decide, by decide, by decide, by decide, by decide, by decide,
    by decide, by decide⟩, ⟨by decide, by decide, fun h => absurd h (by decide), fun h => absurd h (by decide)⟩,
    _, rfl⟩

/-- The first frame of program P1, failed once and about to be sent again. -/
def resending : State :=
  { send [.ok] with
    retry := 1, trace := [⟨.imgRewind, .done⟩,
      ⟨.send 1 4 [0x00, 0x01, 0xF0, 0x0A] (.units 10000), .fail⟩] }

theorem test_witness_RecordNumberingKept :
    resending.OrderInv ∧ ∃ t, step resending = .next t := by
  refine ⟨⟨by decide, by decide, by decide, ?_⟩, _, rfl⟩
  intro pre e post h hs he
  match pre, h with
  | [], _ => exact absurd hs (by decide)
  | [_], h =>
    obtain ⟨rfl, rfl, -⟩ : _ ∧ _ ∧ post = [] := by
      simpa [resending, send, run, State.reset, eq_comm] using h
    exact ⟨0xF0, 0x0A, by decide⟩
  | _ :: _ :: pre, h =>
    have := congrArg List.length h
    simp [resending] at this

theorem test_witness_IdenticalResendKept :
    resending.ResendInv ∧ ∃ t, step resending = .next t := by
  refine ⟨⟨?_, ?_⟩, _, rfl⟩
  · intro pre e e' post h he hs
    match pre, h with
    | [], h =>
      obtain ⟨rfl, -⟩ : _ ∧ _ := by simpa [resending, eq_comm] using h
      exact absurd he (by decide)
    | [_], h =>
      have := congrArg List.length h
      simp [resending] at this
    | _ :: _ :: pre, h =>
      have := congrArg List.length h
      simp [resending] at this
  · intro pre e h he
    have := (List.append_inj' (h.symm.trans (show resending.trace = [⟨.imgRewind, .done⟩] ++
      [⟨.send 1 4 [0x00, 0x01, 0xF0, 0x0A] (.units 10000), .fail⟩] from rfl)) rfl).2
    obtain rfl : e = _ := by simpa using this
    exact .inl (by decide)

/-- Init done, the heartbeat seen and the queue flushed: about to rewind. -/
def rewinding : State :=
  { run Code.sRewind [] with trace := [⟨.openCh, .ok⟩, heartbeatSeen params, queueFlushed] }

theorem test_witness_SingleSetupKept : rewinding.SetupInv ∧ ∃ t, step rewinding = .next t := by
  refine ⟨⟨by decide, by decide, by decide, by decide, ?_, by decide⟩, _, rfl⟩
  intro pre e post h he
  have hm : ∀ x ∈ rewinding.trace, x.req ≠ .closeCh := by decide
  exact absurd he (hm e (mem_of_split h))

theorem test_witness_HeartbeatBeforeStreamKept :
    rewinding.HandshakeInv ∧ ∃ t, step rewinding = .next t := by
  refine ⟨⟨fun h => absurd h (by decide), fun _ => ⟨[⟨.openCh, .ok⟩], rfl⟩, ?_⟩, _, rfl⟩
  intro pre e post h he
  have hm : ∀ x ∈ rewinding.trace, x.req ≠ .imgRewind := by decide
  exact absurd he (hm e (mem_of_split h))

/-- The acknowledgement accepted: about to close. -/
def acknowledged : State :=
  { run Code.sClose [.ok] with
    trace := [ackMatched params, ⟨.recv (.units 10000), .msg 2 3 [0x00, 0x00, 0x80]⟩] }

theorem test_witness_DoneNeedsAckKept : acknowledged.AckInv ∧ ∃ t, step acknowledged = .next t :=
  ⟨⟨fun h => absurd h (by decide), fun _ _ => ⟨[], 2, 3, [0x00, 0x00, 0x80], rfl, by decide⟩,
    fun h => absurd h (by decide)⟩, _, rfl⟩

/-- Two states about to rewind that differ in every streaming register. -/
theorem test_witness_DeadRegistersUnread : AgreeLive phase { phase with
    cnt := 7, nib0 := 1, nib1 := 2, nib2 := 3, nibCnt := 2, frame := 9, retry := 4 } :=
  ⟨rfl, by decide, by decide, by decide, by decide, by decide⟩

/-! ### Phases and runs -/

theorem test_witness_StreamingSendsEveryRecord :
    phase.state = Code.sRewind ∧ phase.host = [] ∧ acceptable phase ∧
    ([1] : List Nat).length = (nibbles phase.params phase.image).length / 4 ∧
    (∀ n ∈ ([1] : List Nat), phase.cfg.retryLimit = 0 ∨ n < phase.cfg.retryLimit.toNat) ∧
    phase.script = answersFor [1] ++ [.ok] := by decide
theorem test_witness_RetryLimitEndsAttempt :
    ({ send (List.replicate 2 .fail ++ [.ok]) with cfg := ⟨0, true, false, 2⟩ } : State).script =
      List.replicate (2 : BitVec 32).toNat .fail ++ [.ok] ∧ (2 : BitVec 32) ≠ 0 ∧
    (send []).state = Code.sSend ∧ (send []).retry = 0 ∧ (send []).host = [] := by decide
theorem test_witness_UnboundedResendNeverGivesUp :
    (send [.fail, .fail, .ok]).script = List.replicate 2 .fail ++ [.ok] ∧
    (send []).cfg.retryLimit = 0 ∧ (send []).state = Code.sSend ∧ (send []).host = [] := by decide
/-- The three kinds of run of `RunsThatNeverEnd`: the last with the record of `phase` failed once. -/
theorem test_witness_RunsThatNeverEnd :
    (run Code.sWaitHb []).script = [] ∧ (run Code.sWaitHb []).host = [] ∧
    (send []).cfg.retryLimit = 0 ∧ acceptable phase ∧
    ([1] : List Nat).length = (nibbles phase.params phase.image).length / 4 ∧
    ({ phase with
      state := Code.sWaitHb, script := []
      later := .cycle .ok (.done :: (answersFor [1] ++ [.fail])) } : State).supplied.script =
      [.ok, .done, .fail, .ok, .fail] := by decide
/-- A run that never ends: no answer ever comes. -/
theorem test_witness_EndlessRunStays : ∃ (s : State) (run : Nat → State), s.host = [] ∧
    ∀ k, Host.Core.run Sys2Proof.core k s = .next (run k) ∧ (run k).terminal = false :=
  ⟨State.reset, fun _ => State.reset, rfl, fun k => ⟨run_fixed k rfl, rfl⟩⟩
/-- `R268`'s premises, with the record failed once and the close answering FAIL. -/
theorem test_witness_RunReachesDone :
    (run Code.sWaitHb []).state = Code.sWaitHb ∧ acceptable phase ∧
    (0x123 : Nat) < 2 ^ params.idW ∧ ([0xAA, 0xBB, 0x80] : List Byte).length = 3 ∧
    ([0xAA, 0xBB, 0x80] : List Byte)[params.ackIndex]? = some params.ackValue ∧
    ({ phase with
      state := Code.sWaitHb
      script := .ok :: .done :: (answersFor [1] ++
        .ok :: .msg 0x123 3 [0xAA, 0xBB, 0x80] :: .fail :: []) } : State).script =
      [.ok, .done, .fail, .ok, .ok, .msg 0x123 3 [0xAA, 0xBB, 0x80], .fail] := by decide

end Sys2Proof.Tests
end

section
/-! PROOF. What an operation asks of its environment and what it does by itself. An operation that
gives a next state completes at most one request, the one of its row of R82, and otherwise only writes
the block's registers and emits at most one report. From this: the step issues the table's request
(R6, R70, R82) and the frame over all operations (R8, R52, R256). -/

namespace Sys2Proof.Machine

variable {s t u : State} {req : Request} {r : Response}

/-! ### The step -/

/-- Where the host's move is idle it is taken, and the step is the selected operation. -/
theorem step_idle_move {rest : List HostMove} (h : s.host = .idle :: rest) :
    step s = exec (decodeState s.state) { s with host := rest } := by
  simp [step, h]

/-! ### What the block does by itself -/

/-- `t` is `s` after the block's own work: registers written, at most one report emitted (R96), and
nothing of the environment or the request record touched. -/
structure BlockEffect (s t : State) : Prop where
  params : t.params = s.params
  cfg : t.cfg = s.cfg
  image : t.image = s.image
  script : t.script = s.script
  later : t.later = s.later
  host : t.host = s.host
  trace : t.trace = s.trace
  reports : t.reports = s.reports ∨ ∃ e, t.reports = s.reports ++ [e]

namespace BlockEffect

theorem refl (s : State) : BlockEffect s s := ⟨rfl, rfl, rfl, rfl, rfl, rfl, rfl, .inl rfl⟩

/-- Writing registers, whichever and to whatever values, is the block's own work. -/
theorem registers {state cnt nib0 nib1 nib2 nibCnt frame retry cause link closeErr} :
    BlockEffect s { s with
      state := state, cnt := cnt, nib0 := nib0, nib1 := nib1, nib2 := nib2, nibCnt := nibCnt,
      frame := frame, retry := retry, cause := cause, link := link, closeErr := closeErr } :=
  ⟨rfl, rfl, rfl, rfl, rfl, rfl, rfl, .inl rfl⟩

/-- So is writing registers and emitting one report. -/
theorem reporting {state cnt nib0 nib1 nib2 nibCnt frame retry cause link closeErr} {e : Report} :
    BlockEffect s { s with
      state := state, cnt := cnt, nib0 := nib0, nib1 := nib1, nib2 := nib2, nibCnt := nibCnt,
      frame := frame, retry := retry, cause := cause, link := link, closeErr := closeErr,
      reports := s.reports ++ [e] } :=
  ⟨rfl, rfl, rfl, rfl, rfl, rfl, rfl, .inr ⟨e, rfl⟩⟩

theorem raiseFatal (c : FatalCause) : BlockEffect s (s.raiseFatal c) := by
  unfold State.raiseFatal
  split
  · exact registers
  · exact reporting

theorem raiseSoft (c : SoftCause) : BlockEffect s (s.raiseSoft c) := registers

theorem collect (v : Byte) : BlockEffect s (s.collect v) := by
  rcases s.collect_cases v with ⟨-, -, h⟩ | ⟨-, ⟨-, h⟩ | ⟨-, h⟩ | ⟨-, h⟩ | ⟨-, h⟩⟩ <;> rw [h]
  exacts [raiseFatal _, registers, registers, registers, registers]

end BlockEffect

/-! ### Completed requests -/

/-- In state `s` the request `req` is answered `r`, which leaves the state `u`. -/
inductive Completes (s : State) : Request → Response → State → Prop where
  | transport {req r rest} : s.supplied.script = r :: rest → req.allows s.params r = true →
      Completes s req r (s.supplied.answered req r rest)
  | imgRewind : Completes s .imgRewind .done s.imgRewound
  | imgByte (b) : Completes s .imgNext (.byte b) (s.imgByte b)
  | imgEnd : Completes s .imgNext .imgEnd s.imgEnded

namespace Completes

theorem allows (h : Completes s req r u) : req.allows s.params r = true := by
  cases h with
  | transport _ ha => exact ha
  | imgRewind | imgByte | imgEnd => rfl

theorem trace (h : Completes s req r u) : u.trace = s.trace ++ [⟨req, r⟩] := by
  cases h <;> rfl

theorem keeps (h : Completes s req r u) :
    u.image = s.image ∧ u.params = s.params ∧ u.cfg = s.cfg ∧ u.host = s.host ∧
    u.reports = s.reports := by
  cases h <;> exact ⟨rfl, rfl, rfl, rfl, rfl⟩

/-- The image source consumes no answer; the transport gives the next one (R55). -/
theorem answers (h : Completes s req r u) :
    (u.script = s.script ∧ u.later = s.later) ∨
    ∃ a, s.supplied.script = a :: u.script ∧ u.later = s.supplied.later := by
  cases h with
  | transport hs _ => exact .inr ⟨_, hs, rfl⟩
  | imgRewind | imgByte | imgEnd => exact .inl ⟨rfl, rfl⟩

end Completes

/-! ### Every operation completes at most the request of its row -/

/-- The request column of R82 by operation; a byte class is a fetch step (log entry 12). For the
operation that `STATE` selects this is `State.request` (`State.request_eq`). -/
def requestOf (i : Instr) (s : State) : Option Request :=
  match i with
  | .nibDigit _ | .nibSkip _ | .nibAt | .nibAlpha _ | .sFetch => some .imgNext
  | .sOpen => some .openCh
  | .sConfig => some (.configure s.params.bitrate)
  | .sGolive => some .goLive
  | .sStart => if s.cfg.bypass ∨ s.deviceId = 0 then none else some s.startCommand
  | .sWaitHb => some (.recvMatch s.params.hbId s.params.tHb)
  | .sFlush => some .flush
  | .sRewind => some .imgRewind
  | .sSend => some s.dataMessage
  | .sAckWait => some (.recvMatch s.params.ackId s.params.tAck)
  | .sAckRead => some (.recv s.params.tAck)
  | .sClose => some .closeCh
  | .sFailed | .sDone | .sAborted | .reservedState0xF => none

theorem State.request_eq (s : State) : s.request = requestOf (decodeState s.state) s := by
  unfold State.request
  rcases decodeState_cases s.state with ⟨-, e⟩ | ⟨-, e⟩ | ⟨-, e⟩ | ⟨-, e⟩ | ⟨-, e⟩ | ⟨-, e⟩ |
    ⟨-, e⟩ | ⟨-, e⟩ | ⟨-, e⟩ | ⟨-, e⟩ | ⟨-, e⟩ | ⟨-, e⟩ | ⟨-, e⟩ | ⟨-, e⟩ | ⟨-, e⟩ |
    ⟨-, e⟩ <;> rw [e] <;> rfl

/-- From `s` to `t` at most one request is completed, the one in `q`; the rest is the block's own
work. -/
def Exchanges (s : State) (q : Option Request) (t : State) : Prop :=
  BlockEffect s t ∨ ∃ req r u, q = some req ∧ Completes s req r u ∧ BlockEffect u t

/-- A transport request whose response the block handles by itself. -/
theorem State.tx_exchanges {k : Response → State → State} (h : s.tx req k = .next t)
    (hk : ∀ r u, BlockEffect u (k r u)) : Exchanges s (some req) t := by
  rcases State.tx_next h with ⟨-, rfl⟩ | ⟨r, rest, hs, ha, rfl⟩
  · exact .inl (.refl _)
  · exact .inr ⟨req, r, _, rfl, .transport hs ha, hk r _⟩

/-- A byte of the image read, and the block's own work on it. -/
theorem exchanges_imgByte {b : Byte} (h : BlockEffect (s.imgByte b) t) :
    Exchanges s (some .imgNext) t :=
  .inr ⟨.imgNext, .byte b, _, rfl, .imgByte b, h⟩

theorem execSStart_exchanges (h : execSStart s = .next t) :
    Exchanges s (requestOf .sStart s) t := by
  unfold execSStart at h
  split at h
  · cases h
    exact .inl .registers
  · split at h
    · cases h
      exact .inl (.raiseFatal _)
    · have hq : requestOf .sStart s = some s.startCommand := by simp [requestOf, *]
      rw [hq]
      refine State.tx_exchanges h fun r u => ?_
      split
      exacts [.registers, .raiseFatal _]

theorem execSFetch_exchanges (h : execSFetch s = .next t) : Exchanges s (some .imgNext) t := by
  rcases execSFetch_next h with ⟨-, rfl⟩ | ⟨b, -, ⟨-, rfl⟩ | ⟨v, -, rfl⟩⟩
  · exact .inr ⟨.imgNext, .imgEnd, _, rfl, .imgEnd, .registers⟩
  · exact exchanges_imgByte .registers
  · exact exchanges_imgByte (.collect v)

/-- Everything an operation does to its environment. -/
theorem exec_exchanges {i : Instr} (h : exec i s = .next t) : Exchanges s (requestOf i s) t := by
  cases i with dsimp only [exec] at h
  | nibDigit b | nibAlpha b =>
    cases h
    exact exchanges_imgByte (.collect _)
  | nibAt =>
    cases h
    exact exchanges_imgByte (.collect _)
  | nibSkip b =>
    cases h
    exact exchanges_imgByte .registers
  | sOpen | sConfig | sGolive =>
    refine State.tx_exchanges h fun r u => ?_
    split
    exacts [.registers, .raiseFatal _]
  | sStart => exact execSStart_exchanges h
  | sWaitHb =>
    refine State.tx_exchanges h fun r u => ?_
    split
    exacts [.registers, .registers]
  | sFlush => exact State.tx_exchanges h fun _ _ => .registers
  | sRewind =>
    cases h
    exact .inr ⟨.imgRewind, .done, _, rfl, .imgRewind, .registers⟩
  | sFetch => exact execSFetch_exchanges h
  | sSend =>
    refine State.tx_exchanges h fun r u => ?_
    split
    · exact .registers
    · dsimp only
      split
      exacts [.registers, .registers]
  | sAckWait =>
    refine State.tx_exchanges h fun r u => ?_
    split
    exacts [.registers, .raiseSoft _]
  | sAckRead =>
    refine State.tx_exchanges h fun r u => ?_
    split
    · split
      exacts [.registers, .raiseSoft _]
    · exact .raiseSoft _
  | sFailed =>
    cases h
    exact .inl .reporting
  | sClose =>
    refine State.tx_exchanges h fun r u => ?_
    dsimp only
    split
    exacts [.reporting, .reporting]
  | sDone | sAborted =>
    cases h
    exact .inl (.refl _)
  | reservedState0xF => cases h

/-! ### The obligations -/

/-- Settles O45: with the host idle the step is the selected operation, which completes at most the
request of its row. -/
theorem stepIssuesTableRequest : Obligations.StepIssuesTableRequest := by
  intro s t hh h
  rw [step_idle hh] at h
  rw [s.request_eq]
  rcases exec_exchanges h with hb | ⟨req, r, u, hq, hc, hb⟩
  · exact .inl hb.trace
  · exact .inr ⟨req, r, hq, hc.allows, hb.trace.trans hc.trace⟩

/-- Settles O46: neither the completed request nor the block's own work touches the environment, but
for the answer taken. -/
theorem environmentFrame : Obligations.EnvironmentFrame := by
  intro i s t h
  rcases exec_exchanges h with hb | ⟨req, r, u, -, hc, hb⟩
  · exact ⟨fun a => by rw [hb.image], hb.params, hb.cfg, hb.host, .inl ⟨hb.script, hb.later⟩,
      .inl hb.trace, hb.reports⟩
  · obtain ⟨himage, hparams, hcfg, hhost, hreports⟩ := hc.keeps
    refine ⟨fun a => by rw [hb.image, himage], hb.params.trans hparams, hb.cfg.trans hcfg,
      hb.host.trans hhost, ?_, .inr ⟨⟨req, r⟩, hb.trace.trans hc.trace⟩, ?_⟩
    · rw [hb.script, hb.later]
      exact hc.answers
    · rw [← hreports]
      exact hb.reports

/-- Settles O15: the two ways in which the host leaves the step to the block. -/
theorem stepRunsSelectedOperation : Obligations.StepRunsSelectedOperation :=
  fun _ => ⟨step_idle, fun _ => step_idle_move⟩

end Sys2Proof.Machine
end

section
/-! PROOF. The state after reset, what the host reads of the registers, and the one shape of an invariant
proof: it holds after a reset, and every move keeps it. From this: the reset values (R34, R250), every
invariant of Safety.lean at reset, the `STATUS` word (R32) and the session view (R22). -/

namespace Sys2Proof.Machine

variable {s t : State}

/-! ### The state after reset -/

/-- A run is about to begin: the reset state, or what a reset by the host leaves. -/
def AtReset (t : State) : Prop :=
  t = State.reset ∨ ∃ s cfg image sc l, t = State.hostReset s cfg image sc l

theorem atReset_hostReset (s : State) (cfg : CfgInputs) (image : List Byte) (sc : List Response)
    (l : Later) : AtReset (s.hostReset cfg image sc l) :=
  .inr ⟨s, cfg, image, sc, l, rfl⟩

/-- Settles O13: both resets write every register and empty the report log. -/
theorem resetValues : Obligations.ResetValues := by
  rintro t (rfl | ⟨s, cfg, image, sc, l, rfl⟩)
  · exact ⟨rfl, rfl, rfl, rfl, rfl, rfl, rfl, rfl, rfl, rfl, rfl, rfl⟩
  · exact ⟨rfl, rfl, rfl, rfl, rfl, rfl, rfl, rfl, rfl, rfl, rfl, rfl⟩

namespace AtReset

variable (h : AtReset t)
include h

theorem state : t.state = Code.sOpen := (resetValues t h).1

theorem reports : t.reports = [] := by
  obtain ⟨-, -, -, -, -, -, -, -, -, -, -, hr⟩ := resetValues t h
  exact hr

theorem trace : t.trace = [] := by
  rcases h with rfl | ⟨s, cfg, image, sc, l, rfl⟩ <;> rfl

theorem inv : t.Inv := by
  obtain ⟨hstate, hcnt, -, -, -, hnib, -, -, hcause, hlink, -, -⟩ := resetValues t h
  constructor <;> simp +decide [hstate, hcnt, hnib, hcause, hlink]

theorem reportInv : t.ReportInv := by
  constructor <;> simp +decide [h.state, h.reports]

theorem orderInv : t.OrderInv := by
  constructor <;> simp +decide [h.state, h.trace, streamed, Numbered]

theorem resendInv : t.ResendInv := by
  constructor <;> simp +decide [h.trace]

theorem setupInv : t.SetupInv := by
  constructor <;> simp +decide [h.state, h.trace, streamed, startCommands]

theorem handshakeInv : t.HandshakeInv := by
  constructor <;> simp +decide [h.state, h.trace]

theorem ackInv : t.AckInv := by
  constructor <;> simp +decide [h.state]

end AtReset

/-- Settles O48: in `S_OPEN` with an empty request record, an empty report log and the registers at
their reset values nothing has happened that an invariant speaks of. -/
theorem invariantsHoldAtReset : Obligations.InvariantsHoldAtReset := by
  intro t ht
  have h : AtReset t := ht
  exact ⟨h.inv, h.reportInv, h.orderInv, h.resendInv, h.setupInv, h.handshakeInv, h.ackInv⟩

/-- A property that does not read the host's moves is kept by every step when every reset establishes
it and every move keeps it. -/
theorem step_keeps {P : State → Prop} (hhost : ∀ s rest, P s → P { s with host := rest })
    (hreset : ∀ t, AtReset t → P t) (hmove : ∀ s t, P s → Move s t → P t) (hs : P s)
    (h : step s = .next t) : P t := by
  rcases step_move h with ⟨cfg, image, sc, l, rest, rfl⟩ | ⟨rest, hm⟩
  · exact hreset _ (atReset_hostReset _ cfg image sc l)
  · exact hmove _ t (hhost s rest hs) hm

/-! ### What the host reads -/

theorem State.success_iff (s : State) : s.success = true ↔ s.state = Code.sDone := by
  simp [State.success]

theorem State.terminal_iff (s : State) :
    s.terminal = true ↔ s.state = Code.sDone ∨ s.state = Code.sAborted := by
  simp [State.terminal]

/-- A field of a word, read off the word as a number. -/
theorem extractLsb'_eq_of_toNat {w n : Nat} {x : BitVec w} {f : BitVec n} (lo : Nat)
    (h : x.toNat / 2 ^ lo % 2 ^ n = f.toNat) : x.extractLsb' lo n = f := by
  apply BitVec.eq_of_toNat_eq
  rwa [BitVec.extractLsb'_toNat, Nat.shiftRight_eq_div_pow]

/-- A bit of a word, read off the word as a number. -/
theorem getLsbD_eq_of_toNat {w : Nat} {x : BitVec w} {b : Bool} (i : Nat)
    (h : x.toNat / 2 ^ i % 2 = b.toNat) : x.getLsbD i = b := by
  rw [BitVec.getLsbD, Nat.testBit_eq_decide_div_mod_eq, h]
  cases b <;> rfl

/-- Settles O10: `STATUS` is a number in which each field stands at its own power of two and no lower
field reaches it; the two flags are functions of `STATE`. -/
theorem statusLayout : Obligations.StatusLayout := by
  refine ⟨fun s => ?_, rfl⟩
  have h := s.status_toNat
  have hnib := s.nibCnt.isLt
  have hcause := s.cause.isLt
  have hstate := s.state.isLt
  have hsuccess := s.success.toNat_lt
  have hterminal := s.terminal.toNat_lt
  have hcloseErr := s.closeErr.toNat_lt
  have hlink := s.link.toNat_lt
  have hfield : s.status.extractLsb' 16 16 = countField s.cnt :=
    extractLsb'_eq_of_toNat 16 (by have hcnt := (countField s.cnt).isLt; omega)
  rw [← s.terminal_iff, ← s.success_iff, hfield]
  exact ⟨extractLsb'_eq_of_toNat 0 (by omega), extractLsb'_eq_of_toNat 4 (by omega),
    getLsbD_eq_of_toNat 8 (by omega), getLsbD_eq_of_toNat 9 (by omega),
    by rw [getLsbD_eq_of_toNat 10 (b := s.terminal) (by omega)],
    by rw [getLsbD_eq_of_toNat 11 (b := s.success) (by omega)],
    extractLsb'_eq_of_toNat 12 (by omega), extractLsb'_eq_of_toNat 14 (by simp; omega), rfl,
    fun hlt => Nat.mod_eq_of_lt hlt⟩

/-- Settles O12: `SESSION` by state code; in `S_CLOSE` it is the class of the cause that decides, and no
fatal code is `NONE`. -/
theorem sessionViewTable : Obligations.SessionViewTable := by
  intro c
  refine ⟨rfl, rfl, rfl, rfl, rfl, rfl, rfl, rfl, rfl, rfl, rfl, rfl, ?_, ?_, rfl, rfl⟩
  · rintro rfl
    rfl
  · intro hc
    have hn : c ≠ noCause := fun e => noCause_not_isFatal (e ▸ hc)
    exact (if_neg hn).trans (if_pos hc)

end Sys2Proof.Machine
end

section
/-! PROOF. Every step keeps the register invariants (R35, R91, R204, R206). A move ends in one of four
ways: in a state of the attempt, with the handle held and no fatal cause; in `S_CLOSE`; in `S_DONE`; or
in `S_ABORTED`. Each way has one lemma, from which the fatal path and the moves follow. -/

namespace Sys2Proof.Machine

variable {s t : State}

/-- The states between `S_OPEN` and the end of the run in which the handle is held and no fatal cause
stands (R35). -/
abbrev attempting (c : StateCode) : Prop :=
  c ≠ Code.sOpen ∧ c ≠ Code.sClose ∧ c ≠ Code.sDone ∧ c ≠ Code.sAborted ∧ c ≠ Code.reserved

/-- A cause that may stand during an attempt: none yet, or that of the last failed one (R28). -/
abbrev notFatal (c : CauseCode) : Prop := c = noCause ∨ isSoftCode c

/-- `CNT` fits in its `CNT_W` bits, given that `CNT_INIT` does (`State.Inv.cnt_width`). -/
abbrev State.cntFits (s : State) : Prop :=
  s.params.cntInit < 2 ^ s.params.cntW → s.cnt < 2 ^ s.params.cntW

theorem notFatal.not_isFatal {c : CauseCode} (h : notFatal c) : ¬ isFatalCode c := by
  rcases h with rfl | ⟨hlo, -⟩
  · exact noCause_not_isFatal
  · rintro ⟨-, hhi⟩
    omega

theorem nextCount_fits (p : Params) (c : Nat) : nextCount p c < 2 ^ p.cntW :=
  Nat.mod_lt _ (Nat.two_pow_pos _)

namespace State.Inv

/-! ### What the invariants say of a state -/

theorem takeMove (h : s.Inv) (rest : List HostMove) : State.Inv { s with host := rest } :=
  ⟨h.cnt_width, h.link_iff, h.nibCnt_where, h.fatal_where, h.close_cause, h.not_reserved,
    h.cause_known, h.done_cause, h.aborted_cause, h.failed_cause⟩

theorem link_open (h : s.Inv) (hs : s.state = Code.sOpen) : s.link = false :=
  h.link_iff.mpr (.inl hs)

theorem link_held (h : s.Inv) (hs : attempting s.state) : s.link = true := by
  obtain ⟨hopen, -, hdone, haborted, -⟩ := hs
  rw [← Bool.not_eq_false, h.link_iff]
  simp [hopen, hdone, haborted]

theorem cause_notFatal (h : s.Inv) (hs : s.state ≠ Code.sClose ∧ s.state ≠ Code.sAborted) :
    notFatal s.cause := by
  rcases h.cause_known with hc | hc | hc
  · exact .inl hc
  · exact absurd (h.fatal_where hc) (not_or.mpr hs)
  · exact .inr hc

/-- Outside `S_FETCH`, nibbles are left over only by `E_MALFORMED`. -/
theorem leftover (h : s.Inv) (hs : s.state ≠ Code.sFetch) (hn : s.nibCnt ≠ 0) :
    s.cause = FatalCause.eMalformed.code :=
  ((h.nibCnt_where hn).resolve_left hs).2

theorem nibCnt_zero (h : s.Inv)
    (hs : s.state ≠ Code.sFetch ∧ s.state ≠ Code.sClose ∧ s.state ≠ Code.sAborted) :
    s.nibCnt = 0 := by
  obtain ⟨hfetch, hclose, haborted⟩ := hs
  by_contra hn
  have hf : isFatalCode s.cause := h.leftover hfetch hn ▸ FatalCause.eMalformed.isFatal
  exact absurd (h.fatal_where hf) (not_or.mpr ⟨hclose, haborted⟩)

/-! ### How a move can end -/

/-- In a state of the attempt: the handle held, no fatal cause, no nibbles outside `S_FETCH`. -/
theorem of_attempting (hstate : attempting t.state) (hlink : t.link = true)
    (hcause : notFatal t.cause) (hfailed : t.state = Code.sFailed → isSoftCode t.cause)
    (hnib : t.state = Code.sFetch ∨ t.nibCnt = 0) (hcnt : t.cntFits) : t.Inv := by
  obtain ⟨hopen, hclose, hdone, haborted, hreserved⟩ := hstate
  have hf := hcause.not_isFatal
  exact {
    cnt_width := hcnt
    link_iff := by simp [hlink, hopen, hdone, haborted]
    nibCnt_where := fun hn => .inl (hnib.resolve_right hn)
    fatal_where := fun h => absurd h hf
    close_cause := fun h => absurd h hclose
    not_reserved := hreserved
    cause_known := hcause.imp_right .inr
    done_cause := fun h => absurd h hdone
    aborted_cause := fun h => absurd h haborted
    failed_cause := hfailed }

/-- In `S_CLOSE`, with the handle still held: the run's end is decided by `CAUSE` (R204). -/
theorem of_closing (hstate : t.state = Code.sClose) (hlink : t.link = true)
    (hcause : t.cause = noCause ∨ (isFatalCode t.cause ∧ t.cause ≠ FatalCause.eOpen.code))
    (hnib : t.nibCnt ≠ 0 → t.cause = FatalCause.eMalformed.code) (hcnt : t.cntFits) : t.Inv where
  cnt_width := hcnt
  link_iff := by simp +decide [hstate, hlink]
  nibCnt_where hn := .inr ⟨.inl hstate, hnib hn⟩
  fatal_where _ := .inl hstate
  close_cause _ := hcause
  not_reserved := hstate ▸ by decide
  cause_known := hcause.imp_right fun hf => .inl hf.1
  done_cause := hstate ▸ nofun
  aborted_cause := hstate ▸ nofun
  failed_cause := hstate ▸ nofun

/-- In `S_DONE`, without the handle and without a cause (R205). -/
theorem of_done (hstate : t.state = Code.sDone) (hlink : t.link = false)
    (hcause : t.cause = noCause) (hnib : t.nibCnt = 0) (hcnt : t.cntFits) : t.Inv where
  cnt_width := hcnt
  link_iff := by simp [hstate, hlink]
  nibCnt_where hn := absurd hnib hn
  fatal_where hf := absurd (hcause ▸ hf) noCause_not_isFatal
  close_cause := hstate ▸ nofun
  not_reserved := hstate ▸ by decide
  cause_known := .inl hcause
  done_cause _ := hcause
  aborted_cause := hstate ▸ nofun
  failed_cause := hstate ▸ nofun

/-- In `S_ABORTED`, without the handle and with a fatal cause (R206). -/
theorem of_aborted (hstate : t.state = Code.sAborted) (hlink : t.link = false)
    (hcause : isFatalCode t.cause) (hnib : t.nibCnt ≠ 0 → t.cause = FatalCause.eMalformed.code)
    (hcnt : t.cntFits) : t.Inv where
  cnt_width := hcnt
  link_iff := by simp [hstate, hlink]
  nibCnt_where hn := .inr ⟨.inr hstate, hnib hn⟩
  fatal_where _ := .inr hstate
  close_cause := hstate ▸ nofun
  not_reserved := hstate ▸ by decide
  cause_known := .inr (.inl hcause)
  done_cause := hstate ▸ nofun
  aborted_cause _ := hcause
  failed_cause := hstate ▸ nofun

/-- The fatal path (R224): `E_OPEN` is raised only without the handle, and nibbles are left over only
by `E_MALFORMED`. -/
theorem raiseFatal {c : FatalCause} (hopen : s.link = false ∨ c.code ≠ FatalCause.eOpen.code)
    (hnib : s.nibCnt ≠ 0 → c.code = FatalCause.eMalformed.code) (hcnt : s.cntFits) :
    (s.raiseFatal c).Inv := by
  cases hl : s.link with
  | false =>
    rw [s.raiseFatal_unlinked c hl]
    exact of_aborted rfl hl c.isFatal hnib hcnt
  | true =>
    rw [s.raiseFatal_linked c hl]
    exact of_closing rfl hl (.inr ⟨c.isFatal, hopen.resolve_left (by simp [hl])⟩) hnib hcnt

/-! ### The moves -/

/-- From one state of the attempt to the next, `LINK` and `CAUSE` as they were. -/
theorem advance (h : s.Inv) (hs : attempting s.state)
    (ht : attempting t.state ∧ t.state ≠ Code.sFailed) (hlink : t.link = s.link)
    (hcause : t.cause = s.cause) (hnib : t.state = Code.sFetch ∨ t.nibCnt = 0)
    (hcnt : t.cntFits) : t.Inv := by
  obtain ⟨-, hclose, -, haborted, -⟩ := id hs
  exact of_attempting ht.1 (hlink.trans (h.link_held hs))
    (hcause ▸ h.cause_notFatal ⟨hclose, haborted⟩) (fun e => absurd e ht.2) hnib hcnt

/-- From a state of the attempt to `S_FAILED` (R226). -/
theorem fail (h : s.Inv) (hs : attempting s.state) (ht : t.state = Code.sFailed)
    (hlink : t.link = s.link) (hcause : isSoftCode t.cause) (hnib : t.nibCnt = 0)
    (hcnt : t.cntFits) : t.Inv :=
  of_attempting (ht ▸ by decide) (hlink.trans (h.link_held hs)) (.inr hcause) (fun _ => hcause)
    (.inr hnib) hcnt

/-- Every move keeps the register invariants. -/
theorem move (h : s.Inv) (hm : Move s t) : t.Inv := by
  have hcnt := h.cnt_width
  cases hm with
  | hold => exact h
  | openOk rest hc =>
    exact of_attempting (by simp +decide) rfl (h.cause_notFatal (hc ▸ by decide)) nofun
      (.inr (h.nibCnt_zero (hc ▸ by decide))) hcnt
  | openFail rest hc =>
    exact raiseFatal (.inl (h.link_open hc))
      (fun hn => absurd (h.nibCnt_zero (hc ▸ by decide)) hn) hcnt
  | configFail rest hc | goliveFail rest hc | startNodev hc | startFail rest hc =>
    exact raiseFatal (.inr (by decide))
      (fun hn => absurd (h.nibCnt_zero (hc ▸ by decide)) hn) hcnt
  | malformed b v hc => exact raiseFatal (.inr (by decide)) (fun _ => rfl) hcnt
  | configOk rest hc | goliveOk rest hc | startBypass hc | startOk rest hc | waitOk rest hc
  | waitFail rest hc | flushed rest hc | sendAgain rest hc | ackOk rest hc | failed hc =>
    exact h.advance (hc ▸ by decide) (by simp +decide) rfl rfl
      (.inr (h.nibCnt_zero (hc ▸ by decide))) hcnt
  | rewound hc => exact h.advance (hc ▸ by decide) (by simp +decide) rfl rfl (.inl rfl) id
  | skipped b hc | slot0 b v hc | slot1 b v hc | slot2 b v hc =>
    exact h.advance (hc ▸ by decide) (by simp +decide) rfl rfl (.inl rfl) hcnt
  | imageEnd hc | grouped b v hc =>
    exact h.advance (hc ▸ by decide) (by simp +decide) rfl rfl (.inr rfl) hcnt
  | sendOk rest hc =>
    exact h.advance (hc ▸ by decide) (by simp +decide) rfl rfl (.inl rfl)
      fun _ => nextCount_fits _ _
  | sendLimit rest hc | ackFail rest hc | readFail rest hc | readBad rest id dlc data hc =>
    exact h.fail (hc ▸ by decide) rfl rfl (SoftCause.isSoft _) (h.nibCnt_zero (hc ▸ by decide)) hcnt
  | readGood rest id dlc data hc =>
    exact of_closing rfl (h.link_held (hc ▸ by decide)) (.inl rfl)
      (fun hn => absurd (h.nibCnt_zero (hc ▸ by decide)) hn) hcnt
  | closedDone r rest hc hs hr hn =>
    have hnib : s.nibCnt = 0 := by
      by_contra hne
      exact FatalCause.eMalformed.code_ne_none ((h.leftover (hc ▸ by decide) hne).symm.trans hn)
    exact of_done rfl rfl hn hnib hcnt
  | closedAborted r rest hc hs hr hn =>
    exact of_aborted rfl rfl ((h.close_cause hc).resolve_left hn).1 (h.leftover (hc ▸ by decide))
      hcnt

end State.Inv

/-- Settles O49: a reset establishes the register invariants and every move keeps them. -/
theorem registerInvariantKept : Obligations.RegisterInvariantKept :=
  fun _ _ hs h => step_keeps (fun _ rest h => h.takeMove rest) (fun _ h => h.inv)
    (fun _ _ h hm => h.move hm) hs h

end Sys2Proof.Machine
end

section
/-! PROOF. No step reads a dead streaming register (R36). `AgreeLive` is kept by each shared operation
and, once a response is handled alike, by a transport request; from these rules every operation that
`STATE` selects treats two agreeing states alike. -/

namespace Sys2Proof.Machine

variable {s t : State}

/-- The state `s` with the streaming registers of `u`. -/
def State.streamingFrom (s u : State) : State :=
  { s with cnt := u.cnt, nib0 := u.nib0, nib1 := u.nib1, nib2 := u.nib2, nibCnt := u.nibCnt,
           frame := u.frame, retry := u.retry }

/-- Two steps come to the same: the same stop, or next states that agree. -/
inductive StepAlike :
    Host.Outcome State Fault Refusal → Host.Outcome State Fault Refusal → Prop where
  | next {s' t' : State} : AgreeLive s' t' → StepAlike (.next s') (.next t')
  | fault (f : Fault) : StepAlike (.fault f) (.fault f)
  | refused (r : Refusal) : StepAlike (.refused r) (.refused r)

namespace AgreeLive

/-! ### When states agree -/

theorem eq_streamingFrom (h : AgreeLive s t) : ∃ u, t = s.streamingFrom u := ⟨t, h.same⟩

/-- Outside `S_FETCH` and `S_SEND` every streaming register is dead. -/
theorem dead (hsame : t = s.streamingFrom t)
    (hs : s.state ≠ Code.sFetch ∧ s.state ≠ Code.sSend) : AgreeLive s t where
  same := hsame
  streaming := fun h => absurd h (not_or.mpr hs)
  nib0_live := fun h => absurd h (not_or.mpr hs)
  nib1_live := fun h => absurd h (not_or.mpr hs)
  nib2_live := fun h => absurd h (not_or.mpr hs)
  frame_live := fun h => absurd h hs.2

/-! What is not a streaming register is the same in both states. -/

theorem state_eq (h : AgreeLive s t) : t.state = s.state := by rw [h.same]
theorem link_eq (h : AgreeLive s t) : t.link = s.link := by rw [h.same]
theorem cause_eq (h : AgreeLive s t) : t.cause = s.cause := by rw [h.same]
theorem params_eq (h : AgreeLive s t) : t.params = s.params := by rw [h.same]
theorem cfg_eq (h : AgreeLive s t) : t.cfg = s.cfg := by rw [h.same]
theorem host_eq (h : AgreeLive s t) : t.host = s.host := by rw [h.same]
theorem imgPeek_eq (h : AgreeLive s t) : t.imgPeek = s.imgPeek := by
  rw [h.same]
  rfl
theorem supplied_script_eq (h : AgreeLive s t) : t.supplied.script = s.supplied.script :=
  congrArg (fun x => x.supplied.script) h.same

/-! ### The shared operations keep it -/

theorem takeMove (h : AgreeLive s t) (rest : List HostMove) :
    AgreeLive { s with host := rest } { t with host := rest } := by
  obtain ⟨u, rfl⟩ := h.eq_streamingFrom
  exact ⟨rfl, h.streaming, h.nib0_live, h.nib1_live, h.nib2_live, h.frame_live⟩

theorem answered (h : AgreeLive s t) (req : Request) (r : Response) (rest : List Response) :
    AgreeLive (s.supplied.answered req r rest) (t.supplied.answered req r rest) := by
  obtain ⟨u, rfl⟩ := h.eq_streamingFrom
  exact ⟨rfl, h.streaming, h.nib0_live, h.nib1_live, h.nib2_live, h.frame_live⟩

theorem imgByte (h : AgreeLive s t) (b : Byte) : AgreeLive (s.imgByte b) (t.imgByte b) := by
  obtain ⟨u, rfl⟩ := h.eq_streamingFrom
  exact ⟨rfl, h.streaming, h.nib0_live, h.nib1_live, h.nib2_live, h.frame_live⟩

/-- Going to a state that streams nothing. -/
theorem leave (h : AgreeLive s t) {c : StateCode} (hc : c ≠ Code.sFetch ∧ c ≠ Code.sSend) :
    AgreeLive { s with state := c } { t with state := c } := by
  obtain ⟨u, rfl⟩ := h.eq_streamingFrom
  exact dead rfl hc

theorem raiseSoft (h : AgreeLive s t) (c : SoftCause) :
    AgreeLive (s.raiseSoft c) (t.raiseSoft c) := by
  obtain ⟨u, rfl⟩ := h.eq_streamingFrom
  exact dead rfl (by simp +decide)

theorem raiseFatal (h : AgreeLive s t) (c : FatalCause) :
    AgreeLive (s.raiseFatal c) (t.raiseFatal c) := by
  unfold State.raiseFatal
  rw [h.link_eq]
  obtain ⟨u, rfl⟩ := h.eq_streamingFrom
  split
  · exact dead rfl (by simp +decide)
  · exact dead rfl (by simp +decide)

/-- The nibble arm reads the slots below `NIBCNT` and writes the next one (R182). -/
theorem collect (h : AgreeLive s t) (hs : s.state = Code.sFetch) (v : Byte) :
    AgreeLive (s.collect v) (t.collect v) := by
  obtain ⟨hcnt, hn, hretry⟩ := h.streaming (.inl hs)
  unfold State.collect
  rw [hn, h.cfg_eq]
  split
  · exact h.raiseFatal _
  · have h0 := h.nib0_live (.inl hs)
    have h1 := h.nib1_live (.inl hs)
    have h2 := h.nib2_live (.inl hs)
    obtain ⟨u, rfl⟩ := h.eq_streamingFrom
    split
    · exact ⟨rfl, fun _ => ⟨hcnt, rfl, hretry⟩, fun _ _ => rfl, by simp, by simp, nofun⟩
    · exact ⟨rfl, fun _ => ⟨hcnt, rfl, hretry⟩, fun _ _ => h0 (by omega), fun _ _ => rfl, by simp,
        nofun⟩
    · exact ⟨rfl, fun _ => ⟨hcnt, rfl, hretry⟩, fun _ _ => h0 (by omega), fun _ _ => h1 (by omega),
        fun _ _ => rfl, nofun⟩
    · rename_i hne0 hne1 hne2
      have hne : s.nibCnt.toNat ≠ 0 ∧ s.nibCnt.toNat ≠ 1 ∧ s.nibCnt.toNat ≠ 2 :=
        ⟨hne0, hne1, hne2⟩
      refine ⟨rfl, fun _ => ⟨hcnt, rfl, rfl⟩, by simp, by simp, by simp, fun _ => ?_⟩
      rw [hcnt, h0 (by omega), h1 (by omega), h2 (by omega)]

end AgreeLive

/-! ### The operations -/

/-- The same transport request is answered alike; it remains that the response is handled alike. -/
theorem tx_alike {req req' : Request} {k : Response → State → State} (h : AgreeLive s t)
    (hreq : req' = req)
    (hk : ∀ r x y, x.state = s.state → AgreeLive x y → AgreeLive (k r x) (k r y)) :
    StepAlike (s.tx req k) (t.tx req' k) := by
  subst hreq
  unfold State.tx
  rw [h.supplied_script_eq, h.params_eq]
  split
  · exact .next h
  · split
    · exact .next (hk _ _ _ rfl (h.answered _ _ _))
    · exact .refused _

/-- The registers that an attempt starts with are written, not read (R180). -/
theorem execSRewind_alike (h : AgreeLive s t) : StepAlike (execSRewind s) (execSRewind t) := by
  obtain ⟨u, rfl⟩ := h.eq_streamingFrom
  exact .next ⟨rfl, fun _ => ⟨rfl, rfl, rfl⟩, by simp, by simp, by simp, nofun⟩

/-- Staying in a state is no change. -/
theorem State.goto_self {c : StateCode} (h : s.state = c) : { s with state := c } = s := by
  rw [← h]

/-- Everything that a fetch reads is the environment's or a live register (R181 to R183). -/
theorem execSFetch_alike (h : AgreeLive s t) (hs : s.state = Code.sFetch) :
    StepAlike (execSFetch s) (execSFetch t) := by
  rw [execSFetch_eq, execSFetch_eq, h.imgPeek_eq, h.params_eq]
  refine .next ?_
  cases s.imgPeek with
  | none =>
    obtain ⟨u, rfl⟩ := h.eq_streamingFrom
    exact .dead rfl (by simp +decide)
  | some b =>
    have hb := h.imgByte b
    dsimp only
    cases dec s.params b with
    | skip =>
      have hsb : (s.imgByte b).state = Code.sFetch := hs
      rw [State.goto_self hsb, State.goto_self (hb.state_eq.trans hsb)]
      exact hb
    | nib v => exact hb.collect hs v

/-- What is sent, and how the attempt goes on after it, is in live registers alone (R184 to R186). -/
theorem execSSend_alike (h : AgreeLive s t) (hs : s.state = Code.sSend) :
    StepAlike (execSSend s) (execSSend t) := by
  have hmsg : t.dataMessage = s.dataMessage := by
    rw [State.dataMessage, h.params_eq, h.frame_live hs]
    rfl
  refine tx_alike h hmsg fun r x y hx hxy => ?_
  have hsend : x.state = Code.sSend := hx.trans hs
  obtain ⟨hcnt, hn, hretry⟩ := hxy.streaming (.inr hsend)
  split
  · obtain ⟨u, rfl⟩ := hxy.eq_streamingFrom
    exact ⟨rfl, fun _ => ⟨congrArg (nextCount x.params) hcnt, hn, rfl⟩,
      fun _ => hxy.nib0_live (.inr hsend), fun _ => hxy.nib1_live (.inr hsend),
      fun _ => hxy.nib2_live (.inr hsend), nofun⟩
  · dsimp only
    rw [hretry, hxy.cfg_eq]
    obtain ⟨u, rfl⟩ := hxy.eq_streamingFrom
    split
    · exact .dead rfl (by simp +decide)
    · exact ⟨rfl, fun _ => ⟨hcnt, hn, rfl⟩, fun _ => hxy.nib0_live (.inr hsend),
        fun _ => hxy.nib1_live (.inr hsend), fun _ => hxy.nib2_live (.inr hsend),
        fun _ => hxy.frame_live hsend⟩

theorem execSStart_alike (h : AgreeLive s t) : StepAlike (execSStart s) (execSStart t) := by
  have hid : t.deviceId = s.deviceId := by
    rw [State.deviceId, h.cfg_eq, h.params_eq]
    rfl
  have hbypass : t.cfg.bypass = s.cfg.bypass := by rw [h.cfg_eq]
  unfold execSStart
  rw [hbypass, hid]
  split
  · exact .next (h.leave (by decide))
  · split
    · exact .next (h.raiseFatal _)
    · have hcmd : t.startCommand = s.startCommand := by
        rw [State.startCommand, hid, h.params_eq]
        rfl
      refine tx_alike h hcmd fun r x y _ hxy => ?_
      split
      exacts [hxy.leave (by decide), hxy.raiseFatal _]

theorem execSAckRead_alike (h : AgreeLive s t) : StepAlike (execSAckRead s) (execSAckRead t) := by
  refine tx_alike h (by rw [h.params_eq]) fun r x y _ hxy => ?_
  split
  · rw [hxy.params_eq]
    split
    · obtain ⟨u, rfl⟩ := hxy.eq_streamingFrom
      exact .dead rfl (by simp +decide)
    · exact hxy.raiseSoft _
  · exact hxy.raiseSoft _

theorem execSClose_alike (h : AgreeLive s t) : StepAlike (execSClose s) (execSClose t) := by
  refine tx_alike h rfl fun r x y _ hxy => ?_
  dsimp only
  rw [hxy.cause_eq]
  obtain ⟨u, rfl⟩ := hxy.eq_streamingFrom
  split
  exacts [.dead rfl (by simp +decide), .dead rfl (by simp +decide)]

/-- Encoding the operation of a state code gives the code back (R82). -/
theorem encode_decodeState (c : StateCode) : encode (decodeState c) = .state4 c := by
  revert c
  decide

/-- The selected operation treats agreeing states alike. -/
theorem exec_alike (h : AgreeLive s t) :
    StepAlike (exec (decodeState s.state) s) (exec (decodeState t.state) t) := by
  rw [h.state_eq]
  have hcode := encode_decodeState s.state
  cases hi : decodeState s.state with (rw [hi] at hcode; dsimp only [exec])
  | nibDigit | nibSkip | nibAt | nibAlpha => nomatch hcode
  | sOpen =>
    refine tx_alike h rfl fun r x y _ hxy => ?_
    split
    · obtain ⟨u, rfl⟩ := hxy.eq_streamingFrom
      exact .dead rfl (by simp +decide)
    · exact hxy.raiseFatal _
  | sConfig =>
    refine tx_alike h (by rw [h.params_eq]) fun r x y _ hxy => ?_
    split
    exacts [hxy.leave (by decide), hxy.raiseFatal _]
  | sGolive =>
    refine tx_alike h rfl fun r x y _ hxy => ?_
    split
    exacts [hxy.leave (by decide), hxy.raiseFatal _]
  | sStart => exact execSStart_alike h
  | sWaitHb =>
    refine tx_alike h (by rw [h.params_eq]) fun r x y _ hxy => ?_
    split
    exacts [hxy.leave (by decide), hxy.leave (by decide)]
  | sFlush => exact tx_alike h rfl fun _ _ _ _ hxy => hxy.leave (by decide)
  | sRewind => exact execSRewind_alike h
  | sFetch => exact execSFetch_alike h (CodeWord.state4.inj hcode).symm
  | sSend => exact execSSend_alike h (CodeWord.state4.inj hcode).symm
  | sAckWait =>
    refine tx_alike h (by rw [h.params_eq]) fun r x y _ hxy => ?_
    split
    exacts [hxy.leave (by decide), hxy.raiseSoft _]
  | sAckRead => exact execSAckRead_alike h
  | sFailed =>
    obtain ⟨u, rfl⟩ := h.eq_streamingFrom
    exact .next (.dead rfl (by simp +decide))
  | sClose => exact execSClose_alike h
  | sDone | sAborted => exact .next h
  | reservedState0xF => exact .fault _

/-- A reset writes every streaming register; any other step is the selected operation's. -/
theorem step_alike (h : AgreeLive s t) : StepAlike (step s) (step t) := by
  unfold step
  rw [h.host_eq]
  split
  · exact exec_alike h
  · rename_i rest _
    exact exec_alike (h.takeMove rest)
  · obtain ⟨u, rfl⟩ := h.eq_streamingFrom
    exact .next (.dead rfl (by simp +decide))

/-- Settles O56: two agreeing states step alike, which is the same stop or next states that agree. -/
theorem deadRegistersUnread : Obligations.DeadRegistersUnread := by
  intro s t h
  have hst := step_alike h
  generalize step s = o at hst ⊢
  generalize step t = o' at hst ⊢
  cases hst with
  | @next s' t' hn => exact ⟨by rintro _ ⟨⟩; exact ⟨t', rfl, hn⟩, by simp, by simp⟩
  | fault f => exact ⟨by simp, fun _ => id, by simp⟩
  | refused r => exact ⟨by simp, by simp, fun _ => id⟩

end Sys2Proof.Machine
end

section
/-! PROOF. Which operation changes which register (R23 to R30, R90). Each arm of an operation is listed with
the registers it writes; those it does not name are kept. -/

namespace Sys2Proof.Machine

variable {i : Instr} {s t : State}

/-- From `s` to `t` the operation `i` has changed no register but as R23 to R30 and R90 let it. A field
not given stands for a register that is kept. -/
structure LawfulWrites (i : Instr) (s t : State) : Prop where
  cnt : t.cnt ≠ s.cnt → i = .sRewind ∨ i = .sSend := by simp
  nib0 : t.nib0 ≠ s.nib0 → takesNibble i s ∧ s.nibCnt = 0 := by simp
  nib1 : t.nib1 ≠ s.nib1 → takesNibble i s ∧ s.nibCnt = 1 := by simp
  nib2 : t.nib2 ≠ s.nib2 → takesNibble i s ∧ s.nibCnt = 2 := by simp
  frame : t.frame ≠ s.frame → takesNibble i s ∧ s.nibCnt = 3 := by simp
  nibCnt : t.nibCnt ≠ s.nibCnt →
    i = .sRewind ∨ takesNibble i s ∨ (i = .sFetch ∧ s.image.length ≤ s.imgPos) := by simp
  retry : t.retry ≠ s.retry →
    i = .sRewind ∨ i = .sSend ∨ (takesNibble i s ∧ s.nibCnt = 3) := by simp
  cause : t.cause ≠ s.cause →
    (i = .sOpen ∧ t.cause = 0x1) ∨ (i = .sConfig ∧ t.cause = 0x2) ∨
    (i = .sGolive ∧ t.cause = 0x3) ∨ (i = .sStart ∧ (t.cause = 0x4 ∨ t.cause = 0x5)) ∨
    (takesNibble i s ∧ s.cfg.check = true ∧ t.cause = 0x6) ∨
    (i = .sSend ∧ t.cause = 0xB) ∨ (i = .sAckWait ∧ t.cause = 0x8) ∨
    (i = .sAckRead ∧ (t.cause = 0x0 ∨ t.cause = 0x9 ∨ t.cause = 0xA)) := by simp
  link : t.link ≠ s.link →
    (i = .sOpen ∧ t.link = true) ∨ (i = .sClose ∧ t.link = false) := by simp
  closeErr : t.closeErr ≠ s.closeErr → i = .sClose := by simp

namespace LawfulWrites

theorem refl : LawfulWrites i s s := {}

/-- The nibble arm (R182), after a byte has been read. -/
theorem collect (hi : takesNibble i s) (b v : Byte) :
    LawfulWrites i s ((s.imgByte b).collect v) := by
  rcases (s.imgByte b).collect_cases v with ⟨hc, -, e⟩ | ⟨-, ⟨hn, e⟩ | ⟨hn, e⟩ | ⟨hn, e⟩ |
    ⟨hn, e⟩⟩ <;> rw [e]
  · exact { cause := fun _ => .inr (.inr (.inr (.inr (.inl ⟨hi, hc, by simp [FatalCause.code]⟩)))) }
  · exact { nib0 := fun _ => ⟨hi, hn⟩, nibCnt := fun _ => .inr (.inl hi) }
  · exact { nib1 := fun _ => ⟨hi, hn⟩, nibCnt := fun _ => .inr (.inl hi) }
  · exact { nib2 := fun _ => ⟨hi, hn⟩, nibCnt := fun _ => .inr (.inl hi) }
  · exact { frame := fun _ => ⟨hi, hn⟩, nibCnt := fun _ => .inr (.inl hi),
            retry := fun _ => .inr (.inr ⟨hi, hn⟩) }

end LawfulWrites

/-- Every operation writes lawfully: what each of its arms changes. -/
theorem exec_lawfulWrites (h : exec i s = .next t) : LawfulWrites i s t := by
  cases i with dsimp only [exec] at h
  | nibDigit b | nibAlpha b =>
    cases h
    exact .collect (.inr (.inl ⟨b, by simp⟩)) _ _
  | nibAt =>
    cases h
    exact .collect (.inl rfl) _ _
  | nibSkip b =>
    cases h
    exact {}
  | sOpen =>
    rcases execSOpen_next h with ⟨-, rfl⟩ | ⟨rest, ⟨-, rfl⟩ | ⟨-, rfl⟩⟩
    · exact .refl
    · exact { link := fun _ => .inl ⟨rfl, rfl⟩ }
    · exact { cause := by simp [FatalCause.code] }
  | sConfig =>
    rcases execSConfig_next h with ⟨-, rfl⟩ | ⟨rest, ⟨-, rfl⟩ | ⟨-, rfl⟩⟩
    exacts [.refl, {}, { cause := by simp [FatalCause.code] }]
  | sGolive =>
    rcases execSGolive_next h with ⟨-, rfl⟩ | ⟨rest, ⟨-, rfl⟩ | ⟨-, rfl⟩⟩
    exacts [.refl, {}, { cause := by simp [FatalCause.code] }]
  | sStart =>
    rcases execSStart_next h with ⟨-, rfl⟩ | ⟨-, -, rfl⟩ |
      ⟨-, -, ⟨-, rfl⟩ | ⟨rest, ⟨-, rfl⟩ | ⟨-, rfl⟩⟩⟩
    exacts [{}, { cause := by simp [FatalCause.code] }, .refl, {},
      { cause := by simp [FatalCause.code] }]
  | sWaitHb =>
    rcases execSWaitHb_next h with ⟨-, rfl⟩ | ⟨rest, ⟨-, rfl⟩ | ⟨-, rfl⟩⟩
    exacts [.refl, {}, {}]
  | sFlush =>
    rcases execSFlush_next h with ⟨-, rfl⟩ | ⟨rest, -, rfl⟩
    exacts [.refl, {}]
  | sRewind =>
    cases h
    exact { cnt := fun _ => .inl rfl, nibCnt := fun _ => .inl rfl, retry := fun _ => .inl rfl }
  | sFetch =>
    rcases execSFetch_next h with ⟨hp, rfl⟩ | ⟨b, hp, ⟨-, rfl⟩ | ⟨v, hd, rfl⟩⟩
    · exact { nibCnt := fun _ => .inr (.inr ⟨rfl, List.getElem?_eq_none_iff.mp hp⟩) }
    · exact {}
    · exact .collect (.inr (.inr ⟨rfl, b, v, hp, hd⟩)) b v
  | sSend =>
    rcases execSSend_next h with ⟨-, rfl⟩ | ⟨rest, ⟨-, rfl⟩ | ⟨-, ⟨-, rfl⟩ | ⟨-, rfl⟩⟩⟩
    · exact .refl
    · exact { cnt := fun _ => .inr rfl, retry := fun _ => .inr (.inl rfl) }
    · exact { retry := fun _ => .inr (.inl rfl), cause := by simp [SoftCause.code] }
    · exact { retry := fun _ => .inr (.inl rfl) }
  | sAckWait =>
    rcases execSAckWait_next h with ⟨-, rfl⟩ | ⟨rest, ⟨-, rfl⟩ | ⟨-, rfl⟩⟩
    exacts [.refl, {}, { cause := by simp [SoftCause.code] }]
  | sAckRead =>
    rcases execSAckRead_next h with ⟨-, rfl⟩ | ⟨r, rest, -, -, ⟨-, rfl⟩ |
      ⟨id, dlc, data, -, ⟨-, rfl⟩ | ⟨-, rfl⟩⟩⟩
    exacts [.refl, { cause := by simp [SoftCause.code] }, { cause := by simp },
      { cause := by simp [SoftCause.code] }]
  | sFailed =>
    cases h
    exact {}
  | sClose =>
    rcases execSClose_next h with ⟨-, rfl⟩ | ⟨r, rest, -, -, ⟨-, rfl⟩ | ⟨-, rfl⟩⟩
    · exact .refl
    · exact { link := fun _ => .inr ⟨rfl, rfl⟩, closeErr := fun _ => rfl }
    · exact { link := fun _ => .inr ⟨rfl, rfl⟩, closeErr := fun _ => rfl }
  | sDone | sAborted =>
    cases h
    exact .refl
  | reservedState0xF => cases h

/-- Settles O47: arm by arm, an operation writes only the registers that it may. -/
theorem registerWriters : Obligations.RegisterWriters := by
  intro i s t h
  have w := exec_lawfulWrites h
  exact ⟨w.cnt, w.nib0, w.nib1, w.nib2, w.frame, w.nibCnt, w.retry, w.cause, w.link, w.closeErr⟩

end Sys2Proof.Machine
end

section
/-! PROOF. A transport request for which an answer is to come is made as if that answer had been listed
(R11, R55). -/

namespace Sys2Proof.Machine

variable {s : State} {req : Request}

/-- The start command is handed to the transport past the bypass and the device id (R163), which
supplying an answer does not touch. -/
theorem execSStart_supplied (hq : requestOf .sStart s = some req)
    (hs : s.supplied.script ≠ []) : execSStart s = execSStart s.supplied := by
  have hsend : ¬ (s.cfg.bypass ∨ s.deviceId = 0) := fun h => by simp [requestOf, h] at hq
  obtain ⟨hbypass, hid⟩ := not_or.mp hsend
  have hid' : s.supplied.deviceId ≠ 0 := hid
  simp only [execSStart, State.supplied_cfg, if_neg hbypass, if_neg hid, if_neg hid']
  exact State.tx_supplied hs

/-- An operation with a transport request runs alike with its next answer listed or to come. -/
theorem exec_supplied {i : Instr} (hq : requestOf i s = some req) (ht : req.toTransport = true)
    (hs : s.supplied.script ≠ []) : exec i s = exec i s.supplied := by
  cases i with dsimp only [exec]
  | sStart => exact execSStart_supplied hq hs
  | sOpen | sConfig | sGolive | sWaitHb | sFlush | sSend | sAckWait | sAckRead | sClose =>
    exact State.tx_supplied hs
  | nibDigit | nibSkip | nibAt | nibAlpha | sFetch | sRewind =>
    cases hq
    nomatch ht
  | sFailed | sDone | sAborted | reservedState0xF => nomatch hq

/-- Settles O8: by the rules of `State.supplied`, and the operation's one request takes its answer from
there. -/
theorem answersTakenInOrder : Obligations.AnswersTakenInOrder := by
  intro s
  refine ⟨State.supplied_listed, State.supplied_silent, fun _ _ => State.supplied_cycle,
    fun _ => State.supplied_never, fun _ _ => State.supplied_free, fun req hh hq ht hs => ?_⟩
  rw [s.request_eq] at hq
  have hh' : s.supplied.host = [] := hh
  rw [step_idle hh, step_idle hh', State.supplied_state]
  exact exec_supplied hq ht hs

end Sys2Proof.Machine
end

section
/-! PROOF. The two opcode maps (R81, R82, R94). A byte's class is decided by its range, which ties the
match/mask table to the well-formedness check, and so each decoder to the encoder; the request column
of R82 and the fields of a report byte (R96) are read off the table and the word. -/

namespace Sys2Proof.Machine

variable {b : Byte} {s : State}

/-! ### The byte classes -/

/-- The bytes-taken column of R81: each class with its bytes. At the CBPE-1 thresholds the classes are
those by threshold, so that arithmetic decides. -/
theorem byteClass_cases (b : Byte) :
    (byteClass b = .digit ∧ 0x30 ≤ b.toNat ∧ b.toNat ≤ 0x3F) ∨
    (byteClass b = .skip ∧ b.toNat ≤ 0x2F) ∨
    (byteClass b = .atSign ∧ b = atByte) ∨
    (byteClass b = .alpha ∧ 0x41 ≤ b.toNat) := by
  rw [← classOf_eq_byteClass Params.cbpe1 rfl rfl, classOf, Params.cbpe1_skipLimit,
    Params.cbpe1_alphaLimit]
  by_cases hskip : b.toNat < 48
  · exact .inr (.inl ⟨if_pos hskip, by omega⟩)
  rw [if_neg hskip]
  by_cases halpha : 64 < b.toNat
  · exact .inr (.inr (.inr ⟨if_pos halpha, by omega⟩))
  rw [if_neg halpha]
  by_cases hat : b = atByte
  · exact .inr (.inr (.inl ⟨if_pos hat, hat⟩))
  · have hne : b.toNat ≠ 0x40 := fun h => hat (BitVec.eq_of_toNat_eq h)
    exact .inl ⟨if_neg hat, by omega, by omega⟩

theorem byteClass_digit_iff : byteClass b = .digit ↔ 0x30 ≤ b.toNat ∧ b.toNat ≤ 0x3F := by
  rcases byteClass_cases b with ⟨e, h⟩ | ⟨e, h⟩ | ⟨e, rfl⟩ | ⟨e, h⟩ <;> simp [e] <;> omega

theorem byteClass_skip_iff : byteClass b = .skip ↔ b.toNat ≤ 0x2F := by
  rcases byteClass_cases b with ⟨e, h⟩ | ⟨e, h⟩ | ⟨e, rfl⟩ | ⟨e, h⟩ <;> simp [e] <;> omega

theorem byteClass_atSign_iff : byteClass b = .atSign ↔ b = atByte := by
  refine ⟨fun hc => ?_, fun h => h ▸ rfl⟩
  rcases byteClass_cases b with ⟨e, -⟩ | ⟨e, -⟩ | ⟨-, h⟩ | ⟨e, -⟩
  exacts [(nomatch hc.symm.trans e), (nomatch hc.symm.trans e), h, (nomatch hc.symm.trans e)]

theorem byteClass_alpha_iff : byteClass b = .alpha ↔ 0x41 ≤ b.toNat := by
  rcases byteClass_cases b with ⟨e, h⟩ | ⟨e, h⟩ | ⟨e, rfl⟩ | ⟨e, h⟩ <;> simp [e] <;> omega

/-! ### Decoding and encoding -/

theorem decode_byte8 {c : ByteClass} (h : byteClass b = c) : decode (.byte8 b) = byteInstr c b := by
  rw [← h]
  rfl

/-- The operation of a class and a byte is well formed and has the byte as its word exactly when the
byte is of the class. -/
theorem byteInstr_word_iff {c : ByteClass} :
    (byteInstr c b).WellFormed ∧ encode (byteInstr c b) = .byte8 b ↔ byteClass b = c := by
  cases c with
  | digit => simp [byteInstr, Instr.WellFormed, Instr.check, encode, byteClass_digit_iff]
  | skip => simp [byteInstr, Instr.WellFormed, Instr.check, encode, byteClass_skip_iff]
  | atSign =>
    simp [byteInstr, Instr.WellFormed, Instr.check, encode, byteClass_atSign_iff, eq_comm (a := b)]
  | alpha => simp [byteInstr, Instr.WellFormed, Instr.check, encode, byteClass_alpha_iff]

/-- Every state code is well formed (R82, R83). -/
theorem decodeState_wellFormed (c : StateCode) : (decodeState c).WellFormed := by
  revert c
  decide

/-- Settles O2: a well-formed byte-class operation has a byte of its class, which selects it; the word
of any other operation is its own code. -/
theorem encodeThenDecode : Obligations.EncodeThenDecode := by
  intro i hi
  cases i with
  | nibDigit b => exact decode_byte8 (c := .digit) (byteInstr_word_iff.mp ⟨hi, rfl⟩)
  | nibSkip b => exact decode_byte8 (c := .skip) (byteInstr_word_iff.mp ⟨hi, rfl⟩)
  | nibAt => exact decode_byte8 (c := .atSign) (byteInstr_word_iff.mp ⟨hi, rfl⟩)
  | nibAlpha b => exact decode_byte8 (c := .alpha) (byteInstr_word_iff.mp ⟨hi, rfl⟩)
  | sOpen | sConfig | sGolive | sStart | sWaitHb | sFlush | sRewind | sFetch | sSend | sAckWait
  | sAckRead | sFailed | sClose | sDone | sAborted | reservedState0xF => rfl

/-- Settles O3: a byte is of its own class, and each state code is the word of its operation. -/
theorem decodeThenEncode : Obligations.DecodeThenEncode := by
  intro w
  cases w with
  | byte8 b => exact byteInstr_word_iff.mpr rfl
  | state4 c => exact ⟨decodeState_wellFormed c, encode_decodeState c⟩

/-! ### The tables of R81 and R82 -/

/-- Settles O1: each word is decoded by evaluation. -/
theorem sampleWordsDecode : Obligations.SampleWordsDecode := by
  unfold Obligations.SampleWordsDecode
  decide

/-- The nibble of a byte not below the bias, a difference of numbers (R120), is the difference of
bytes. -/
theorem ofNat_toNat_sub {k : Nat} (hk : k ≤ b.toNat) :
    BitVec.ofNat 8 (b.toNat - k) = b - BitVec.ofNat 8 k := by
  rw [← BitVec.ofNat_sub_ofNat_of_le _ _ (hk.trans_lt b.isLt) hk, BitVec.ofNat_toNat,
    BitVec.setWidth_eq]

/-- Settles O4: the rows' tests are those of `byteClass` in order, the ranges those of
`byteClass_cases`, and the nibbles the ones that `dec` gives each class. -/
theorem byteClassTable : Obligations.ByteClassTable := by
  intro b
  have hclass := classOf_eq_byteClass Params.cbpe1 rfl rfl b
  have hdec := dec_eq_classOf Params.cbpe1 b
  rw [hclass] at hdec
  refine ⟨fun h0 => if_pos h0, fun h0 h1 => ?_, fun h0 h1 h2 => ?_, fun h0 h1 h2 => ?_,
    byteClass_digit_iff, byteClass_skip_iff, byteClass_atSign_iff, byteClass_alpha_iff, hclass,
    fun h => ?_, fun h => ?_, fun h => ?_, fun h => ?_⟩
  · rw [byteClass, if_neg h0, if_pos h1]
  · rw [byteClass, if_neg h0, if_neg h1, if_pos h2]
  · rw [byteClass, if_neg h0, if_neg h1, if_neg h2]
  · rw [hdec, h]
    exact congrArg Decoded.nib (ofNat_toNat_sub (byteClass_digit_iff.mp h).1)
  · rw [hdec, h]
  · rw [hdec, h, byteClass_atSign_iff.mp h]
    rfl
  · have hb := byteClass_alpha_iff.mp h
    rw [hdec, h]
    exact congrArg Decoded.nib (ofNat_toNat_sub (k := 55) (by omega))

/-- A row of R82's table: the operation and the request of a state code. -/
theorem stateCode_row {c : StateCode} {i : Instr} {q : Option Request} (hi : decodeState c = i)
    (hq : requestOf i s = q) (h : s.state = c) : decodeState s.state = i ∧ s.request = q := by
  rw [s.request_eq, h, hi]
  exact ⟨rfl, hq⟩

/-- Settles O5: the rows of R82, of which `S_START` alone has a request under a condition. -/
theorem stateCodeTable : Obligations.StateCodeTable := by
  intro s
  refine ⟨stateCode_row rfl rfl, stateCode_row rfl rfl, stateCode_row rfl rfl, fun h => ?_,
    stateCode_row rfl rfl, stateCode_row rfl rfl, stateCode_row rfl rfl, stateCode_row rfl rfl,
    stateCode_row rfl rfl, stateCode_row rfl rfl, stateCode_row rfl rfl, stateCode_row rfl rfl,
    stateCode_row rfl rfl, stateCode_row rfl rfl, stateCode_row rfl rfl, stateCode_row rfl rfl⟩
  obtain ⟨hi, hq⟩ := stateCode_row rfl rfl h
  refine ⟨hi, fun hnone => hq.trans (if_pos hnone), fun hbypass hid => hq.trans (if_neg ?_)⟩
  simp [hbypass, hid]

/-! ### The report byte -/

/-- The report byte as a number (R96). -/
theorem Report.encode_toNat (r : Report) :
    r.encode.toNat = r.cause.toNat * 2 ^ 4 + r.cerr.toNat * 2 ^ 2 + r.kind.code.toNat := by
  have hcerr := r.cerr.toNat_lt
  have hkind := r.kind.code.isLt
  simp only [Report.encode, BitVec.toNat_append, BitVec.toNat_ofBool, BitVec.toNat_ofNat]
  rw [← Nat.shiftLeft_add_eq_or_of_lt (by omega), ← Nat.shiftLeft_add_eq_or_of_lt (by omega),
    ← Nat.shiftLeft_add_eq_or_of_lt (by omega)]
  simp only [Nat.shiftLeft_eq]
  omega

/-- Settles O11: the report byte is a number in which each field stands at its own power of two. -/
theorem reportByteLayout : Obligations.ReportByteLayout := by
  refine ⟨fun r => ?_, rfl, rfl, rfl⟩
  have h := r.encode_toNat
  have hcause := r.cause.isLt
  have hcerr := r.cerr.toNat_lt
  have hkind := r.kind.code.isLt
  exact ⟨extractLsb'_eq_of_toNat 0 (by omega), getLsbD_eq_of_toNat 2 (by omega),
    getLsbD_eq_of_toNat 3 (by simp; omega), extractLsb'_eq_of_toNat 4 (by omega)⟩

end Sys2Proof.Machine
end

section
/-! PROOF. When a step stops (R83, R93, R230). A transport request stops only on an answer outside its
response set, and every other operation but the reserved one has a next state; so a step's outcome is
decided by `STATE` and the next answer. A fetch is the operation of its byte (R181). -/

namespace Sys2Proof.Machine

variable {i : Instr} {s t : State} {req : Request}

/-! ### A fetch is the operation of its byte -/

/-- Whatever the thresholds, a fetch of a byte is the operation of the byte's class (log entry 12). -/
theorem execSFetch_byte {b : Byte} (h : s.imgPeek = some b) :
    execSFetch s = exec (byteInstr (classOf s.params b) b) s := by
  unfold execSFetch
  rw [h]
  dsimp only
  cases classOf s.params b <;> rfl

/-- Settles O16: at the CBPE-1 thresholds the class of the byte is the one it decodes by. -/
theorem fetchRunsDecodedByte : Obligations.FetchRunsDecodedByte := by
  intro s b hskip halpha hb
  have hf : exec .sFetch s = exec (decode (.byte8 b)) s := by
    rw [decode_byte8 (classOf_eq_byteClass s.params hskip halpha b).symm]
    exact execSFetch_byte hb
  refine ⟨hf, fun hs hh => ?_⟩
  rw [step_idle hh, hs]
  exact hf

/-! ### What an operation can end in -/

/-- The next answer to `req` is outside its response set, so that the request is refused (R93). -/
def IllegallyAnswered (s : State) (req : Request) : Prop :=
  req.toTransport = true ∧ ∃ r rest, s.supplied.script = r :: rest ∧ req.allows s.params r = false

/-- The operation `i`, run in `s`, has a next state or stops on one of the two grounds (R83, R93). -/
inductive Ends (i : Instr) (s : State) : Host.Outcome State Fault Refusal → Prop where
  | next (t : State) : Ends i s (.next t)
  | fault : i = .reservedState0xF → Ends i s (.fault .illegalState)
  | refused (req : Request) : requestOf i s = some req → IllegallyAnswered s req →
      Ends i s (.refused .illegalResponse)

/-- A transport request waits, is completed, or is refused for its answer. -/
theorem State.tx_ends {k : Response → State → State} (hq : requestOf i s = some req)
    (ht : req.toTransport = true) : Ends i s (s.tx req k) := by
  cases hs : s.supplied.script with
  | nil =>
    rw [State.tx_waits hs]
    exact .next s
  | cons r rest =>
    cases ha : req.allows s.params r with
    | true =>
      rw [State.tx_answer hs ha]
      exact .next _
    | false =>
      rw [State.tx_refused hs ha]
      exact .refused req hq ⟨ht, r, rest, hs, ha⟩

theorem execSStart_ends (s : State) : Ends .sStart s (execSStart s) := by
  unfold execSStart
  split
  · exact .next _
  · split
    · exact .next _
    · exact State.tx_ends (by simp [requestOf, *]) rfl

theorem execSFetch_ends (s : State) : Ends .sFetch s (execSFetch s) := by
  rw [execSFetch_eq]
  exact .next _

/-- No operation ends otherwise. -/
theorem exec_ends (i : Instr) (s : State) : Ends i s (exec i s) := by
  cases i with dsimp only [exec]
  | nibDigit | nibSkip | nibAt | nibAlpha | sRewind | sFailed | sDone | sAborted =>
    exact .next _
  | sOpen | sConfig | sGolive | sWaitHb | sFlush | sSend | sAckWait | sAckRead | sClose =>
    exact State.tx_ends rfl rfl
  | sStart => exact execSStart_ends s
  | sFetch => exact execSFetch_ends s
  | reservedState0xF => exact .fault rfl

/-! ### What a step can end in -/

/-- Code 0xF, and no other, selects the reserved operation (R82, R83). -/
theorem decodeState_reserved_iff (c : StateCode) :
    decodeState c = .reservedState0xF ↔ c = Code.reserved := by
  revert c
  decide

/-- Settles O44: the two grounds on which the selected operation stops, in terms of `STATE` and of the
request column. -/
theorem stopsOnlyOnReservedOrIllegal : Obligations.StopsOnlyOnReservedOrIllegal := by
  intro s hh
  rw [step_idle hh, s.request_eq]
  have he := exec_ends (decodeState s.state) s
  generalize exec (decodeState s.state) s = o at he ⊢
  cases he with
  | next t => exact .inl ⟨t, rfl⟩
  | fault hi => exact .inr (.inl ⟨rfl, (decodeState_reserved_iff _).mp hi⟩)
  | refused req hq hr =>
    obtain ⟨ht, r, rest, hs, ha⟩ := hr
    exact .inr (.inr ⟨rfl, req, r, rest, hq, ht, hs, ha⟩)

/-- No move writes code 0xF. -/
theorem Move.not_reserved (hm : Move s t) (hs : s.state ≠ Code.reserved) :
    t.state ≠ Code.reserved := by
  cases hm with
  | hold => exact hs
  | openFail | configFail | goliveFail | startNodev | startFail | malformed =>
    rcases State.raiseFatal_state _ _ with e | e <;> rw [e] <;> decide
  | _ => simp +decide

theorem exec_not_reserved (h : exec (decodeState s.state) s = .next t) :
    t.state ≠ Code.reserved := by
  refine (exec_move h).not_reserved fun hs => ?_
  rw [hs] at h
  nomatch h

/-- Settles O36: the reserved operation faults, no other does, and neither a reset nor a move of
another operation goes to code 0xF. -/
theorem reservedStateFaults : Obligations.ReservedStateFaults := by
  refine ⟨rfl, fun s => ⟨rfl, fun hh => ?_, fun t h => ?_⟩⟩
  · refine ⟨fun hf => ?_, fun hs => ?_⟩
    · rcases stopsOnlyOnReservedOrIllegal s hh with ⟨t, h⟩ | ⟨-, hs⟩ | ⟨h, -⟩
      · nomatch hf.symm.trans h
      · exact hs
      · nomatch hf.symm.trans h
    · rw [step_idle hh, hs]
      rfl
  · rcases step_next h with ⟨cfg, image, sc, l, rest, -, rfl⟩ | ⟨rest, h⟩
    · rw [State.hostReset_state]
      decide
    · exact exec_not_reserved (s := { s with host := rest }) h

/-- Settles O41: the step is the request of the state's row, and each request has its response set. -/
theorem illegalResponseRefused : Obligations.IllegalResponseRefused := by
  intro s req r rest hh hq ht hs
  constructor
  · intro ha
    obtain ⟨k, hk⟩ := exec_request hq ht
    rw [step_idle hh, hk, State.tx_refused hs ha]
  · cases req with
    | openCh => exact allows_openCh _ _
    | configure => exact allows_configure _ _ _
    | goLive => exact allows_goLive _ _
    | send => exact allows_send _ _ _ _ _ _
    | recvMatch => exact allows_recvMatch _ _ _ _
    | recv => exact allows_recv _ _ _
    | flush => exact allows_flush _ _
    | closeCh => exact allows_closeCh _ _
    | imgRewind | imgNext => nomatch ht

end Sys2Proof.Machine
end

section
/-! PROOF. Every step keeps the report log well formed (R96, R204, R224, R228). While the run goes on the
log holds FAIL reports only; a move leaves such a log alone, adds a FAIL to it, or ends the run with one
report of the other two kinds. -/

namespace Sys2Proof.Machine

variable {s t : State}

/-! ### The bytes that can occur (V6.1) -/

/-- The report of a failed attempt (R203). -/
theorem failReport_possible {c : CauseCode} (h : isSoftCode c) :
    Report.encode ⟨.fail, c, false⟩ ∈ possibleReportBytes := by
  revert c
  decide

/-- The report of a run that is done (R204). -/
theorem successReport_possible (e : Bool) :
    Report.encode ⟨.success, noCause, e⟩ ∈ possibleReportBytes := by
  revert e
  decide

/-- The report of an aborted run that was closed (R204): `E_OPEN` has nothing to close. -/
theorem fatalReport_possible {c : CauseCode} (h : isFatalCode c)
    (hopen : c ≠ FatalCause.eOpen.code) (e : Bool) :
    Report.encode ⟨.fatal, c, e⟩ ∈ possibleReportBytes := by
  revert c e
  decide

/-- The report of the fatal path without the handle (R224). -/
theorem unlinkedReport_possible (c : FatalCause) :
    Report.encode ⟨.fatal, c.code, false⟩ ∈ possibleReportBytes := by
  cases c <;> decide

/-! ### The log while the run goes on -/

/-- The log of a run that goes on: possible FAIL reports only. -/
def FailsOnly (log : List Report) : Prop :=
  ∀ r ∈ log, r.encode ∈ possibleReportBytes ∧ r.kind = .fail

theorem FailsOnly.append {log : List Report} {r : Report} (h : FailsOnly log)
    (hr : r.encode ∈ possibleReportBytes) (hk : r.kind = .fail) : FailsOnly (log ++ [r]) :=
  List.forall_mem_append.mpr ⟨h, List.forall_mem_singleton.mpr ⟨hr, hk⟩⟩

/-- A possible report after FAIL reports leaves every report possible. -/
theorem FailsOnly.possible_append {log : List Report} {r : Report} (h : FailsOnly log)
    (hr : r.encode ∈ possibleReportBytes) : ∀ x ∈ log ++ [r], x.encode ∈ possibleReportBytes :=
  List.forall_mem_append.mpr ⟨fun x hx => (h x hx).1, List.forall_mem_singleton.mpr hr⟩

namespace State.ReportInv

theorem takeMove (h : s.ReportInv) (rest : List HostMove) :
    State.ReportInv { s with host := rest } :=
  ⟨h.possible, h.running, h.done_last, h.aborted_last⟩

theorem failsOnly (h : s.ReportInv) (hs : s.state ≠ Code.sDone ∧ s.state ≠ Code.sAborted) :
    FailsOnly s.reports :=
  fun r hr => ⟨h.possible r hr, h.running (by simp [State.terminal, hs]) r hr⟩

/-! ### How a move can leave the log -/

theorem of_running (ht : t.terminal = false) (h : FailsOnly t.reports) : t.ReportInv := by
  have hend : ¬ (t.state = Code.sDone ∨ t.state = Code.sAborted) := by
    rw [← t.terminal_iff, ht]
    nofun
  obtain ⟨hdone, haborted⟩ := not_or.mp hend
  exact ⟨fun r hr => (h r hr).1, fun _ r hr => (h r hr).2, fun e => absurd e hdone,
    fun e => absurd e haborted⟩

/-- A run that ends in `S_DONE` reports SUCCESS with the close error (R204). -/
theorem of_done {log : List Report} (h : FailsOnly log) (hstate : t.state = Code.sDone)
    (hlog : t.reports = log ++ [⟨.success, noCause, t.closeErr⟩]) : t.ReportInv where
  possible := hlog ▸ h.possible_append (successReport_possible _)
  running := by simp [State.terminal, hstate]
  done_last _ := ⟨log, _, hlog, fun r hr => (h r hr).2, rfl, rfl⟩
  aborted_last := hstate ▸ nofun

/-- A run that ends in `S_ABORTED` reports FATAL with the cause (R204, R224). -/
theorem of_aborted {log : List Report} {e : Bool} (h : FailsOnly log)
    (hstate : t.state = Code.sAborted) (hlog : t.reports = log ++ [⟨.fatal, t.cause, e⟩])
    (hpossible : Report.encode ⟨.fatal, t.cause, e⟩ ∈ possibleReportBytes) : t.ReportInv where
  possible := hlog ▸ h.possible_append hpossible
  running := by simp [State.terminal, hstate]
  done_last := hstate ▸ nofun
  aborted_last _ := ⟨log, _, hlog, fun r hr => (h r hr).2, rfl, rfl⟩

/-- The fatal path (R224): the log is left to the close that follows, or the run ends here. -/
theorem raiseFatal {c : FatalCause} (h : FailsOnly s.reports) : (s.raiseFatal c).ReportInv := by
  cases hl : s.link with
  | false =>
    rw [s.raiseFatal_unlinked c hl]
    exact of_aborted h rfl rfl (unlinkedReport_possible c)
  | true =>
    rw [s.raiseFatal_linked c hl]
    exact of_running rfl h

/-- Every move keeps the report log well formed. -/
theorem move (hinv : s.Inv) (h : s.ReportInv) (hm : Move s t) : t.ReportInv := by
  cases hm with
  | hold => exact h
  | openFail rest hc | configFail rest hc | goliveFail rest hc | startNodev hc | startFail rest hc
  | malformed b v hc => exact raiseFatal (h.failsOnly (hc ▸ by decide))
  | failed hc =>
    exact of_running rfl ((h.failsOnly (hc ▸ by decide)).append
      (failReport_possible (hinv.failed_cause hc)) rfl)
  | closedDone r rest hc => exact of_done (h.failsOnly (hc ▸ by decide)) rfl rfl
  | closedAborted r rest hc hs hr hn =>
    obtain ⟨hfatal, hopen⟩ := (hinv.close_cause hc).resolve_left hn
    exact of_aborted (h.failsOnly (hc ▸ by decide)) rfl rfl (fatalReport_possible hfatal hopen _)
  | openOk rest hc | configOk rest hc | goliveOk rest hc | startBypass hc | startOk rest hc
  | waitOk rest hc | waitFail rest hc | flushed rest hc | rewound hc | imageEnd hc | skipped b hc
  | slot0 b v hc | slot1 b v hc | slot2 b v hc | grouped b v hc | sendOk rest hc | sendLimit rest hc
  | sendAgain rest hc | ackOk rest hc | ackFail rest hc | readFail rest hc
  | readGood rest id dlc data hc | readBad rest id dlc data hc =>
    exact of_running rfl (h.failsOnly (hc ▸ by decide))

end State.ReportInv

/-- The two invariants together are kept by every step; the causes that the reports carry are those
of the registers. -/
theorem step_keeps_inv_and_reportInv (hs : s.Inv ∧ s.ReportInv) (h : step s = .next t) :
    t.Inv ∧ t.ReportInv :=
  step_keeps (P := fun s => s.Inv ∧ s.ReportInv)
    (fun _ rest ⟨hinv, hrep⟩ => ⟨hinv.takeMove rest, hrep.takeMove rest⟩)
    (fun _ hreset => ⟨hreset.inv, hreset.reportInv⟩)
    (fun _ _ ⟨hinv, hrep⟩ hm => ⟨hinv.move hm, hrep.move hinv hm⟩) hs h

/-- Settles O50: the report log is well formed after every step, as the registers are. -/
theorem reportLogKept : Obligations.ReportLogKept :=
  fun _ _ hinv hrep h => (step_keeps_inv_and_reportInv ⟨hinv, hrep⟩ h).2

end Sys2Proof.Machine
end

section
/-! PROOF. The hex-nibble decoder function on one image byte (R120, R125): its three ranges, its values
at the CBPE-1 thresholds, and the skipped byte (R121, R181). -/

namespace Sys2Proof.Machine

variable {s : State} {p : Params} {b v : Byte}

/-! ### The ranges of R120 -/

theorem dec_eq_skip_iff : dec p b = .skip ↔ b.toNat < p.skipLimit := by
  unfold dec
  split
  · simp [*]
  · split <;> simp [*]

/-- A byte that is not skipped gives the nibble of its side of `ALPHA_LIMIT`. -/
theorem dec_eq_nib (h : p.skipLimit ≤ b.toNat) :
    dec p b = .nib (if p.alphaLimit < b.toNat then alphaNibble p b else digitNibble p b) := by
  rw [dec, if_neg (Nat.not_lt.mpr h)]
  split <;> rfl

/-- At the CBPE-1 values no subtraction goes below zero (R120). -/
theorem dec_cbpe1_cases (b : Byte) :
    (b.toNat < 48 ∧ dec Params.cbpe1 b = .skip) ∨
    ∃ v, dec Params.cbpe1 b = .nib v ∧ ((64 < b.toNat ∧ v.toNat + 55 = b.toNat) ∨
      (48 ≤ b.toNat ∧ b.toNat ≤ 64 ∧ v.toNat + 48 = b.toNat)) := by
  obtain ⟨hdigit, halpha⟩ := nibble_toNat Params.cbpe1 b (by decide) (by decide)
  by_cases hskip : b.toNat < 48
  · exact .inl ⟨hskip, dec_eq_skip_iff.mpr hskip⟩
  refine .inr ⟨_, dec_eq_nib (Nat.not_lt.mp hskip), ?_⟩
  by_cases hhigh : 64 < b.toNat
  · exact .inl ⟨hhigh, by simpa [hhigh] using halpha hhigh⟩
  · exact .inr ⟨by omega, by omega, by simpa [hhigh] using hdigit (Nat.not_lt.mp hskip)⟩

theorem valid_iff : valid v = true ↔ v.toNat ≤ 15 := by
  simp [valid]

/-- Settles O6: the byte is in one of the three ranges, and each clause is arithmetic in it. -/
theorem decoderValues : Obligations.DecoderValues := by
  intro b
  have hb := b.isLt
  have hat : b = 0x40 ↔ b.toNat = 64 := BitVec.toNat_inj.symm
  rcases dec_cbpe1_cases b with ⟨hlow, hskip⟩ | ⟨v, hnib, hv⟩
  · refine ⟨fun _ => hskip, fun h => by omega, fun h => by omega, fun v hv => ?_⟩
    nomatch hskip.symm.trans hv
  · refine ⟨fun h => by omega, fun h => ⟨v, hnib, by omega⟩, fun h h' => ⟨v, hnib, by omega⟩,
      fun v' hv' => ?_⟩
    obtain rfl : v = v' := Decoded.nib.inj (hnib.symm.trans hv')
    rw [valid_iff, ne_eq, hat]
    omega

/-! ### The arms of a fetch -/

theorem execSFetch_end (hb : s.imgPeek = none) :
    execSFetch s = .next { s.imgEnded with nibCnt := 0, state := Code.sAckWait } := by
  rw [execSFetch_eq, hb]

theorem execSFetch_skip (hb : s.imgPeek = some b) (hd : dec s.params b = .skip) :
    execSFetch s = .next { s.imgByte b with state := Code.sFetch } := by
  rw [execSFetch_eq, hb]
  simp [hd]

theorem execSFetch_nibble (hb : s.imgPeek = some b) (hd : dec s.params b = .nib v) :
    execSFetch s = .next ((s.imgByte b).collect v) := by
  rw [execSFetch_eq, hb]
  simp [hd]

/-- Settles O24: both are the skip arm of R181. -/
theorem skippedByteResult : Obligations.SkippedByteResult :=
  fun _ _ => ⟨rfl, fun hb hlow => execSFetch_skip hb (dec_eq_skip_iff.mpr hlow)⟩

end Sys2Proof.Machine
end

section
/-! PROOF. A Streaming phase sends every record (R126, R143, R187, R188). The nibbles still ahead of the
block, those it has collected and those of the bytes not yet read, give the frames still to be sent; a
fetch keeps them, and a record sent takes the first four away. -/

namespace Sys2Proof.Machine

variable {s t u : State} {b v : Byte} {rest : List Response}

/-! ### Resending one record (R184 to R186) -/

theorem nextRetry_toNat (r : BitVec 32) : (nextRetry r).toNat = min (r.toNat + 1) (2 ^ 32 - 1) := by
  rw [nextRetry, BitVec.toNat_ofNat]
  omega

/-- One more failure is below the limit, or there is none. -/
theorem limitReached_nextRetry {limit r : BitVec 32} (h : limit = 0 ∨ r.toNat + 1 < limit.toNat) :
    limitReached limit (nextRetry r) = false := by
  simp only [limitReached, nextRetry_toNat, decide_eq_false_iff_not, not_and, not_le]
  intro hset
  have := h.resolve_left hset
  omega

/-- The response set of the data message (R59). -/
theorem allows_dataMessage (s : State) (r : Response) :
    s.dataMessage.allows s.params r = true ↔ r = .ok ∨ r = .fail :=
  allows_send _ _ _ _ _ _

/-- With the host idle, a known code selects the step's operation (R82). -/
theorem step_selected {c : StateCode} (hs : s.state = c) (hh : s.host = []) :
    step s = exec (decodeState c) s := by
  rw [step_idle hh, hs]

theorem step_send (hs : s.state = Code.sSend) (hh : s.host = []) : step s = execSSend s :=
  step_selected hs hh

/-- A failed record below the limit is to be sent again. -/
theorem step_failedSend (hs : s.state = Code.sSend) (hh : s.host = [])
    (hscript : s.script = .fail :: rest)
    (hlimit : s.cfg.retryLimit = 0 ∨ s.retry.toNat + 1 < s.cfg.retryLimit.toNat) :
    step s = .next { s.answered s.dataMessage .fail rest with retry := nextRetry s.retry } := by
  have hagain := limitReached_nextRetry hlimit
  rw [step_send hs hh, execSSend, State.tx_listed hscript ((allows_dataMessage s _).mpr (.inr rfl))]
  simp [State.answered, hagain, hs]

/-- An accepted record advances the counter, and the next one is fetched. -/
theorem step_acceptedSend (hs : s.state = Code.sSend) (hh : s.host = [])
    (hscript : s.script = .ok :: rest) :
    step s = .next { s.answered s.dataMessage .ok rest with
      cnt := nextCount s.params s.cnt, retry := 0, state := Code.sFetch } := by
  rw [step_send hs hh, execSSend, State.tx_listed hscript ((allows_dataMessage s _).mpr (.inl rfl))]
  rfl

/-- Failures below the limit leave the block resending the same record (R186, R188). -/
theorem run_failedSends (k : Nat) (hs : s.state = Code.sSend) (hh : s.host = [])
    (hscript : s.script = List.replicate k .fail ++ rest)
    (hlimit : s.cfg.retryLimit = 0 ∨ s.retry.toNat + k < s.cfg.retryLimit.toNat) :
    Host.Core.run Sys2Proof.core k s = .next { s with
      retry := nextRetry^[k] s.retry, script := rest,
      trace := s.trace ++ List.replicate k ⟨frameMessage s.params s.frame, .fail⟩ } := by
  induction k generalizing s with
  | zero =>
    obtain rfl : s.script = rest := hscript
    simp [Host.Core.run]
  | succ k ih =>
    rw [List.replicate_succ, List.cons_append] at hscript
    rw [run_succ k (step_failedSend hs hh hscript (hlimit.imp_right fun h => by omega))]
    refine (ih (s := { s.answered .. with retry := nextRetry s.retry }) hs hh rfl
      (hlimit.imp_right fun h => ?_)).trans ?_
    · have := nextRetry_toNat s.retry
      dsimp only [State.answered_cfg]
      omega
    · simp [dataMessage_eq, State.answered, List.replicate_succ]

/-! ### Runs of a Streaming phase -/

/-- The state with everything that a Streaming phase may write blanked out. -/
def State.beyondStreaming (s : State) : State :=
  { s with
    state := 0, cnt := 0, nib0 := 0, nib1 := 0, nib2 := 0, nibCnt := 0, frame := 0, retry := 0,
    imgPos := 0, script := [], trace := [] }

/-- A run leads from `s` to `t`, sends just `sends`, and keeps what a Streaming phase does not write. -/
structure Streams (s t : State) (sends : List Exchange) : Prop where
  run : ∃ k, Host.Core.run Sys2Proof.core k s = .next t
  kept : t.beyondStreaming = s.beyondStreaming
  trace : ∃ es, t.trace = s.trace ++ es ∧ sendsOf es = sends

namespace Streams

variable {xs ys : List Exchange}

theorem trans (h : Streams s t xs) (h' : Streams t u ys) :
    Streams s u (xs ++ ys) := by
  obtain ⟨⟨j, hj⟩, hkept, es, htrace, rfl⟩ := h
  obtain ⟨⟨k, hk⟩, hkept', es', htrace', rfl⟩ := h'
  exact ⟨⟨j + k, (run_add j k hj).trans hk⟩, hkept'.trans hkept, es ++ es',
    by rw [htrace', htrace, List.append_assoc], sendsOf_append es es'⟩

/-- One step of the block with its one exchange. -/
theorem of_step {e : Exchange} (h : step s = .next t) (hkept : t.beyondStreaming = s.beyondStreaming)
    (htrace : t.trace = s.trace ++ [e]) : Streams s t (sendsOf [e]) :=
  ⟨⟨1, run_succ 0 h⟩, hkept, [e], htrace, rfl⟩

theorem host_eq (h : Streams s t xs) : t.host = s.host :=
  (congrArg State.host h.kept :)
theorem params_eq (h : Streams s t xs) : t.params = s.params :=
  (congrArg State.params h.kept :)
theorem cause_eq (h : Streams s t xs) : t.cause = s.cause :=
  (congrArg State.cause h.kept :)
theorem link_eq (h : Streams s t xs) : t.link = s.link :=
  (congrArg State.link h.kept :)
theorem reports_eq (h : Streams s t xs) : t.reports = s.reports :=
  (congrArg State.reports h.kept :)

end Streams

/-- The state after the record has failed `n` times and been accepted, with the answers `rest` to
come. -/
def State.afterRecord (s : State) (n : Nat) (rest : List Response) : State :=
  { s with
    cnt := nextCount s.params s.cnt, retry := 0, state := Code.sFetch, script := rest,
    trace := s.trace ++ List.replicate n ⟨frameMessage s.params s.frame, .fail⟩ ++
      [⟨frameMessage s.params s.frame, .ok⟩] }

/-- A record failed `n` times, below the limit, and then accepted (R188). -/
theorem streams_record {n : Nat} (hs : s.state = Code.sSend) (hh : s.host = [])
    (hscript : s.script = List.replicate n .fail ++ .ok :: rest)
    (hlimit : s.cfg.retryLimit = 0 ∨ s.retry.toNat + n < s.cfg.retryLimit.toNat) :
    Streams s (s.afterRecord n rest) (List.replicate n ⟨frameMessage s.params s.frame, .fail⟩ ++
      [⟨frameMessage s.params s.frame, .ok⟩]) where
  run := ⟨n + 1, by
    rw [run_add n 1 (run_failedSends n hs hh hscript hlimit)]
    exact run_succ 0 (step_acceptedSend hs hh rfl)⟩
  kept := rfl
  trace := ⟨_, List.append_assoc _ _ _, by rw [sendsOf_append, sendsOf_replicate _ _ rfl]; rfl⟩

/-! ### Collecting a nibble that the mode accepts (R182) -/

/-- The nibbles of the group under way (R25). -/
def State.collected (s : State) : List Byte := [s.nib0, s.nib1, s.nib2].take s.nibCnt.toNat

theorem State.collected_length_lt (s : State) : s.collected.length < 4 := by
  have := s.nibCnt.isLt
  simp only [State.collected, List.length_take]
  omega

/-- The first three nibbles of a group are kept for it. -/
theorem State.collect_slot (hok : s.cfg.check = false ∨ valid v = true) (hn : s.nibCnt ≠ 3) :
    ∃ n0 n1 n2 c, s.collect v =
        { s with nib0 := n0, nib1 := n1, nib2 := n2, nibCnt := c, state := Code.sFetch } ∧
      [n0, n1, n2].take c.toNat = s.collected ++ [v] := by
  unfold State.collected
  rcases s.collect_cases v with ⟨hc, hv, -⟩ | ⟨-, ⟨h, e⟩ | ⟨h, e⟩ | ⟨h, e⟩ | ⟨h, -⟩⟩
  · simp [hc, hv] at hok
  · exact ⟨v, s.nib1, s.nib2, 1, e, by simp [h]⟩
  · exact ⟨s.nib0, v, s.nib2, 2, e, by simp [h]⟩
  · exact ⟨s.nib0, s.nib1, v, 3, e, by simp [h]⟩
  · exact absurd h hn

/-- The fourth completes the frame (R142). -/
theorem State.collect_group (hok : s.cfg.check = false ∨ valid v = true) (hn : s.nibCnt = 3) :
    s.collect v = { s with
      frame := group (countField s.cnt) s.nib0 s.nib1 s.nib2 v, nibCnt := 0, retry := 0,
      state := Code.sSend } := by
  rcases s.collect_cases v with ⟨hc, hv, -⟩ | ⟨-, ⟨h, -⟩ | ⟨h, -⟩ | ⟨h, -⟩ | ⟨-, e⟩⟩
  · simp [hc, hv] at hok
  · nomatch h.symm.trans hn
  · nomatch h.symm.trans hn
  · nomatch h.symm.trans hn
  · exact e

/-! ### What is ahead of a fetch -/

/-- The block is in `S_FETCH` with the bytes `bs` unread, which with the nibbles collected so far give
the nibbles `ns`; the transport will fail the records that these make up `fails` times each, below the
limit, and go on with `rest`. -/
structure Ahead (s : State) (bs ns : List Byte) (fails : List Nat) (rest : List Response) : Prop where
  fetching : s.state = Code.sFetch
  idle : s.host = []
  unread : s.image.drop s.imgPos = bs
  pending : s.collected ++ nibbles s.params bs = ns
  accepted : s.cfg.check = false ∨ ∀ v ∈ ns, valid v = true
  records : fails.length = ns.length / 4
  below : ∀ n ∈ fails, s.cfg.retryLimit = 0 ∨ n < s.cfg.retryLimit.toNat
  answers : s.script = answersFor fails ++ rest

namespace Ahead

variable {bs ns : List Byte} {fails : List Nat}

theorem imgPeek (h : Ahead s bs ns fails rest) : s.imgPeek = bs.head? := by
  rw [← h.unread, List.head?_drop]
  rfl

theorem unread_tail (h : Ahead s (b :: bs) ns fails rest) : s.image.drop (s.imgPos + 1) = bs := by
  rw [← List.tail_drop, h.unread, List.tail_cons]

theorem pending_skip (h : Ahead s (b :: bs) ns fails rest) (hd : dec s.params b = .skip) :
    s.collected ++ nibbles s.params bs = ns := by
  simpa [nibbles_cons, hd] using h.pending

theorem pending_nibble (h : Ahead s (b :: bs) ns fails rest) (hd : dec s.params b = .nib v) :
    s.collected ++ v :: nibbles s.params bs = ns := by
  simpa [nibbles_cons, hd] using h.pending

theorem accepts (h : Ahead s (b :: bs) ns fails rest) (hd : dec s.params b = .nib v) :
    s.cfg.check = false ∨ valid v = true :=
  h.accepted.imp_right fun hns => hns v (by simp [← h.pending_nibble hd])

/-- A skipped byte leaves everything else ahead (R181). -/
theorem skip (h : Ahead s (b :: bs) ns fails rest) (hd : dec s.params b = .skip) :
    ∃ t, Streams s t [] ∧ t.cnt = s.cnt ∧ Ahead t bs ns fails rest := by
  have hstep := (step_selected h.fetching h.idle).trans (execSFetch_skip h.imgPeek hd)
  exact ⟨_, .of_step hstep rfl rfl, rfl, { h with
    fetching := rfl, unread := h.unread_tail, pending := h.pending_skip hd }⟩

theorem step_nibble (h : Ahead s (b :: bs) ns fails rest) (hd : dec s.params b = .nib v) :
    step s = .next ((s.imgByte b).collect v) :=
  (step_selected h.fetching h.idle).trans (execSFetch_nibble h.imgPeek hd)

/-- A nibble of an incomplete group is collected and still ahead. -/
theorem slot (h : Ahead s (b :: bs) ns fails rest) (hd : dec s.params b = .nib v)
    (hn : s.nibCnt ≠ 3) : ∃ t, Streams s t [] ∧ t.cnt = s.cnt ∧ Ahead t bs ns fails rest := by
  obtain ⟨n0, n1, n2, c, e, hc⟩ := State.collect_slot (s := s.imgByte b) (h.accepts hd) hn
  have hstep := h.step_nibble hd
  rw [e] at hstep
  refine ⟨_, .of_step hstep rfl rfl, rfl, { h with
    fetching := rfl, unread := h.unread_tail, pending := ?_ }⟩
  rw [← h.pending_nibble hd, List.append_cons]
  exact congrArg (· ++ nibbles s.params bs) hc

/-- A fetch that completes no group sends nothing and keeps the nibbles ahead. -/
theorem collecting (h : Ahead s (b :: bs) ns fails rest)
    (hn : ¬ (s.nibCnt = 3 ∧ ∃ v, dec s.params b = .nib v)) :
    ∃ t, Streams s t [] ∧ t.cnt = s.cnt ∧ Ahead t bs ns fails rest := by
  cases hd : dec s.params b with
  | skip => exact h.skip hd
  | nib v => exact h.slot hd fun h3 => hn ⟨h3, v, hd⟩

/-- A group that is complete heads the nibbles ahead, and its record's failures head the list. -/
theorem group_complete (h : Ahead s (b :: bs) ns fails rest) (hd : dec s.params b = .nib v)
    (hn : s.nibCnt = 3) : ns = s.nib0 :: s.nib1 :: s.nib2 :: v :: nibbles s.params bs ∧
      ∃ n fails', fails = n :: fails' := by
  have hns : ns = s.nib0 :: s.nib1 :: s.nib2 :: v :: nibbles s.params bs := by
    rw [← h.pending_nibble hd, State.collected, hn]
    rfl
  refine ⟨hns, List.exists_cons_of_length_pos ?_⟩
  rw [h.records, hns]
  simp only [List.length_cons]
  omega

/-- A complete group makes its record, which is sent until it is accepted; the nibbles after it are
ahead, with the next counter. -/
theorem record {n : Nat}
    (h : Ahead s (b :: bs) (s.nib0 :: s.nib1 :: s.nib2 :: v :: nibbles s.params bs) (n :: fails) rest)
    (hd : dec s.params b = .nib v) (hn : s.nibCnt = 3) :
    ∃ t, t.cnt = nextCount s.params s.cnt ∧ Ahead t bs (nibbles s.params bs) fails rest ∧
      Streams s t (List.replicate n ⟨frameMessage s.params
          (group (countField s.cnt) s.nib0 s.nib1 s.nib2 v), .fail⟩ ++
        [⟨frameMessage s.params (group (countField s.cnt) s.nib0 s.nib1 s.nib2 v), .ok⟩]) := by
  have hstep := h.step_nibble hd
  rw [State.collect_group (s := s.imgByte b) (h.accepts hd) hn] at hstep
  obtain ⟨hbelow, hbelow'⟩ := List.forall_mem_cons.mp h.below
  have hrecords := h.records
  simp only [List.length_cons] at hrecords
  refine ⟨_, rfl, ?_, (Streams.of_step hstep rfl rfl).trans
    (streams_record (n := n) (rest := answersFor fails ++ rest) rfl h.idle ?_ ?_)⟩
  · exact {
      fetching := rfl
      idle := h.idle
      unread := h.unread_tail
      pending := rfl
      accepted := h.accepted.imp_right fun hv w hw => hv w (by simp [hw])
      records := by omega
      below := hbelow'
      answers := rfl }
  · exact h.answers.trans (by simp)
  · simpa using hbelow

/-- At the end of the image only a partial group is ahead: no record is left to send, and it is dropped
(R143, R183). -/
theorem finish (h : Ahead s [] ns fails rest) : fails = [] ∧
    Streams s { s.imgEnded with nibCnt := 0, state := Code.sAckWait } [] := by
  have hns : s.collected = ns := by simpa [nibbles] using h.pending
  have hlen : ns.length < 4 := hns ▸ s.collected_length_lt
  have hfails : fails.length = 0 := h.records.trans (Nat.div_eq_of_lt hlen)
  exact ⟨List.length_eq_zero_iff.mp hfails, .of_step
    ((step_selected h.fetching h.idle).trans (execSFetch_end h.imgPeek)) rfl rfl⟩

end Ahead

/-- The rest of a Streaming phase: the records of the nibbles ahead are sent, and the block goes on to
the acknowledgement. -/
theorem streams_ahead {bs ns : List Byte} {fails : List Nat} (h : Ahead s bs ns fails rest) :
    ∃ t, Streams s t (sendsFor s.params (framesFrom s.params s.cnt ns) fails) ∧
      t.state = Code.sAckWait ∧ t.nibCnt = 0 ∧ t.script = rest := by
  induction bs generalizing s ns fails with
  | nil =>
    obtain ⟨rfl, hrun⟩ := h.finish
    rw [sendsFor_nil]
    exact ⟨_, hrun, rfl, rfl, h.answers⟩
  | cons b bs ih =>
    by_cases hgroup : s.nibCnt = 3 ∧ ∃ v, dec s.params b = .nib v
    · obtain ⟨hn, v, hd⟩ := hgroup
      obtain ⟨rfl, n, fails, rfl⟩ := h.group_complete hd hn
      obtain ⟨t, hcnt, hahead, hrun⟩ := h.record hd hn
      obtain ⟨u, hrun', hu⟩ := ih hahead
      rw [hrun.params_eq, hcnt] at hrun'
      exact ⟨u, by simpa [framesFrom] using hrun.trans hrun', hu⟩
    · obtain ⟨t, hrun, hcnt, hahead⟩ := h.collecting hgroup
      obtain ⟨u, hrun', hu⟩ := ih hahead
      rw [hrun.params_eq, hcnt] at hrun'
      exact ⟨u, hrun.trans hrun', hu⟩

/-- After the rewind all nibbles of the image are ahead, numbered from `CNT_INIT` (R180). -/
theorem streams_rewind {fails : List Nat} (hs : s.state = Code.sRewind) (hh : s.host = [])
    (hok : acceptable s) (hlen : fails.length = (nibbles s.params s.image).length / 4)
    (hbelow : ∀ n ∈ fails, s.cfg.retryLimit = 0 ∨ n < s.cfg.retryLimit.toNat)
    (hscript : s.script = answersFor fails ++ rest) :
    ∃ t, Streams s t (sendsFor s.params
        (framesFrom s.params s.params.cntInit (nibbles s.params s.image)) fails) ∧
      t.state = Code.sAckWait ∧ t.nibCnt = 0 ∧ t.script = rest := by
  have hahead : Ahead { s.imgRewound with
      cnt := s.params.cntInit, nibCnt := 0, retry := 0, state := Code.sFetch }
      s.image (nibbles s.params s.image) fails rest :=
    ⟨rfl, hh, rfl, rfl, hok, hlen, hbelow, hscript⟩
  obtain ⟨t, hrun, ht⟩ := streams_ahead hahead
  exact ⟨t, (Streams.of_step (step_selected hs hh) rfl rfl).trans hrun, ht⟩

/-- Settles O57: the whole phase is such a run, and what it does not write is kept. -/
theorem streamingSendsEveryRecord : Obligations.StreamingSendsEveryRecord := by
  intro s fails rest hs hh hok hlen hbelow hscript
  obtain ⟨t, hrun, hstate, hnib, hrest⟩ := streams_rewind hs hh hok hlen hbelow hscript
  obtain ⟨k, hk⟩ := hrun.run
  obtain ⟨es, htrace, hsends⟩ := hrun.trace
  exact ⟨k, t, es, hk, hstate, hnib, hrest, hrun.cause_eq, hrun.reports_eq, hrun.link_eq, htrace,
    hsends⟩

end Sys2Proof.Machine
end

section
/-! PROOF. The frame composer (R140, R141, R142): the payload bytes of a composed frame, and a packed
byte and a group's frame as numbers, by the number of a composed frame (`compose_toNat`). -/

namespace Sys2Proof.Machine

/-- The bytes are digits to base 2^8 of the frame's number, the most significant first (R84, R140). -/
theorem frameBytes_compose (cnt : Count) (d1 d2 : Byte) :
    frameBytes (compose cnt d1 d2) = [cnt.extractLsb' 8 8, cnt.extractLsb' 0 8, d1, d2] := by
  have h1 := d1.isLt
  have h2 := d2.isLt
  simp only [frameBytes, List.cons.injEq, and_true, ← BitVec.toNat_inj, BitVec.extractLsb'_toNat,
    compose_toNat, Nat.shiftRight_eq_div_pow]
  omega

/-- Only the low eight bits of the sum are kept (R141). -/
theorem pack_toNat (nh nl : Byte) : (pack nh nl).toNat = (nh.toNat * 16 + nl.toNat) % 256 :=
  BitVec.toNat_ofNat ..

/-- Two valid nibbles (R125) are packed with nothing cut off (R141). -/
theorem pack_toNat_of_le {nh nl : Byte} (hh : nh.toNat ≤ 15) (hl : nl.toNat ≤ 15) :
    (pack nh nl).toNat = nh.toNat * 16 + nl.toNat := by
  rw [pack_toNat, Nat.mod_eq_of_lt (by omega)]

theorem group_toNat (cnt : Count) (n0 n1 n2 n3 : Byte) :
    (group cnt n0 n1 n2 n3).toNat = cnt.toNat * 2 ^ 16 +
      (n0.toNat * 16 + n1.toNat) % 256 * 2 ^ 8 + (n2.toNat * 16 + n3.toNat) % 256 := by
  rw [group, compose_toNat, pack_toNat, pack_toNat]

/-- Settles O7: a composed frame as a number and as bytes, each packed byte, and a group, which is a
frame composed of two packed bytes. -/
theorem composerLayout : Obligations.ComposerLayout :=
  ⟨fun cnt d1 d2 => ⟨compose_toNat cnt d1 d2, frameBytes_compose cnt d1 d2⟩,
    fun nh nl => ⟨pack_toNat nh nl, pack_toNat_of_le⟩, group_toNat, by decide⟩

end Sys2Proof.Machine
end

section
/-! PROOF. Every step keeps one opening, at most one start command, and nothing after a close (R166 (b),
(d), R63). A move follows the graph of the state codes and records at most the request of R82's row, so
that what the invariant asks of the record is a matter of the sixteen codes. -/

namespace Sys2Proof.Machine

variable {s t : State} {e : Exchange}

/-! ### The graph of the state codes -/

/-- The codes that a move other than holding writes into `STATE`: the next-state arms of R160 to R165,
R180 to R186 and R200 to R204, with the two ends of the fatal path (R224). -/
def successors (c : StateCode) : List StateCode :=
  match decodeState c with
  | .sOpen => [Code.sConfig, Code.sClose, Code.sAborted]
  | .sConfig => [Code.sGolive, Code.sClose, Code.sAborted]
  | .sGolive => [Code.sStart, Code.sClose, Code.sAborted]
  | .sStart => [Code.sWaitHb, Code.sClose, Code.sAborted]
  | .sWaitHb => [Code.sWaitHb, Code.sFlush]
  | .sFlush => [Code.sRewind]
  | .sRewind => [Code.sFetch]
  | .sFetch => [Code.sFetch, Code.sSend, Code.sAckWait, Code.sClose, Code.sAborted]
  | .sSend => [Code.sSend, Code.sFetch, Code.sFailed]
  | .sAckWait => [Code.sAckRead, Code.sFailed]
  | .sAckRead => [Code.sClose, Code.sFailed]
  | .sFailed => [Code.sWaitHb]
  | .sClose => [Code.sDone, Code.sAborted]
  | _ => []

theorem raiseFatal_state_mem {c : FatalCause} {l : List StateCode}
    (h : Code.sClose ∈ l ∧ Code.sAborted ∈ l) : (s.raiseFatal c).state ∈ l := by
  rcases s.raiseFatal_state c with hs | hs <;> rw [hs]
  exacts [h.1, h.2]

/-- What a move does to `STATE` and the request record. -/
inductive Advances (s t : State) : Prop where
  /-- an unanswered request, or a halted block. -/
  | hold : t = s → Advances s t
  /-- no request: the first two arms of R163, and R203. -/
  | quiet : t.state ∈ successors s.state → s.state = Code.sStart ∨ s.state = Code.sFailed →
      t.trace = s.trace → Advances s t
  | exchange (e : Exchange) : t.state ∈ successors s.state → s.request = some e.req →
      t.trace = s.trace ++ [e] → Advances s t

/-- The request of the state's row of R82 answered. -/
theorem Advances.of_row {c : StateCode} {i : Instr} {req : Request} {r : Response}
    (hc : s.state = c) (hi : decodeState c = i) (hq : requestOf i s = some req)
    (hgo : t.state ∈ successors c) (htrace : t.trace = s.trace ++ [⟨req, r⟩]) : Advances s t :=
  .exchange ⟨req, r⟩ (hc ▸ hgo) (stateCode_row hi hq hc).2 htrace

theorem requestOf_sStart (hb : s.cfg.bypass = false) (hd : s.deviceId ≠ 0) :
    requestOf .sStart s = some s.startCommand := by
  simp [requestOf, hb, hd]

theorem Move.advances (hm : Move s t) : Advances s t := by
  cases hm with
  | hold => exact .hold rfl
  | startBypass hc => exact .quiet (hc ▸ by simp +decide) (.inl hc) rfl
  | startNodev hc =>
    exact .quiet (raiseFatal_state_mem (hc ▸ by decide)) (.inl hc) (s.raiseFatal_trace _)
  | failed hc => exact .quiet (hc ▸ by simp +decide) (.inr hc) rfl
  | openFail rest hc | configFail rest hc | goliveFail rest hc | malformed b v hc =>
    exact .of_row hc rfl rfl (raiseFatal_state_mem (by decide)) (State.raiseFatal_trace _ _)
  | startOk rest hc hb hd =>
    exact .of_row (i := .sStart) hc rfl (requestOf_sStart hb hd) (by simp +decide) rfl
  | startFail rest hc hb hd =>
    exact .of_row (i := .sStart) hc rfl (requestOf_sStart hb hd) (raiseFatal_state_mem (by decide))
      (State.raiseFatal_trace _ _)
  | openOk rest hc | configOk rest hc | goliveOk rest hc | waitOk rest hc | waitFail rest hc
  | flushed rest hc | rewound hc | imageEnd hc | skipped b hc | slot0 b v hc | slot1 b v hc
  | slot2 b v hc | grouped b v hc | sendOk rest hc | sendLimit rest hc | sendAgain rest hc
  | ackOk rest hc | ackFail rest hc | readFail rest hc | readGood rest id dlc data hc
  | readBad rest id dlc data hc | closedDone r rest hc | closedAborted r rest hc =>
    exact .of_row hc rfl rfl (by simp +decide) rfl

/-! ### Which state asks for what (R82) -/

theorem State.request_kind {req : Request} (h : s.request = some req) :
    (req = .openCh ↔ s.state = Code.sOpen) ∧
    (req.isSend = true ↔ s.state = Code.sStart ∨ s.state = Code.sSend) ∧
    (req = .imgRewind ↔ s.state = Code.sRewind) ∧
    (req = .closeCh ↔ s.state = Code.sClose) := by
  rw [s.request_eq] at h
  have hc := encode_decodeState s.state
  generalize decodeState s.state = i at h hc
  cases i with
  | nibDigit | nibSkip | nibAt | nibAlpha => nomatch hc
  | sFailed | sDone | sAborted | reservedState0xF => nomatch h
  | sStart =>
    rw [requestOf] at h
    split at h
    · nomatch h
    · cases h
      rw [← CodeWord.state4.inj hc]
      simp +decide [State.startCommand]
  | _ =>
    cases h
    rw [← CodeWord.state4.inj hc]
    simp +decide [State.dataMessage]

/-! ### Paths in the graph -/

/-- The codes before the first heartbeat wait. -/
abbrev settingUp (c : StateCode) : Prop :=
  c = Code.sOpen ∨ c = Code.sConfig ∨ c = Code.sGolive ∨ c = Code.sStart

/-- The codes of a Streaming phase that has begun. -/
abbrev inPhase (c : StateCode) : Prop := c = Code.sFetch ∨ c = Code.sSend

theorem successors_ne_open {c c' : StateCode} (h : c' ∈ successors c) : c' ≠ Code.sOpen := by
  revert c c'
  decide

theorem not_halted_of_successors {c c' : StateCode} (h : c' ∈ successors c) :
    c ≠ Code.sDone ∧ c ≠ Code.sAborted := by
  revert c c'
  decide

theorem settingUp_of_successors {c c' : StateCode} (h : c' ∈ successors c) (h' : settingUp c') :
    settingUp c ∧ c ≠ Code.sStart := by
  revert c c'
  decide

theorem inPhase_of_successors {c c' : StateCode} (h : c' ∈ successors c) (h' : inPhase c') :
    inPhase c ∨ c = Code.sRewind := by
  revert c c'
  decide

/-- A code with an arm that asks for nothing leads to the heartbeat wait or to the end. -/
theorem successors_quiet {c c' : StateCode} (h : c' ∈ successors c)
    (hc : c = Code.sStart ∨ c = Code.sFailed) :
    c ≠ Code.sOpen ∧ ¬ settingUp c' ∧ ¬ inPhase c' := by
  revert c c'
  decide

theorem halted_of_close {c : StateCode} (h : c ∈ successors Code.sClose) :
    c = Code.sDone ∨ c = Code.sAborted := by
  revert c
  decide

/-! ### The setup invariant -/

namespace State.SetupInv

theorem takeMove (h : s.SetupInv) (rest : List HostMove) : State.SetupInv { s with host := rest } :=
  ⟨h.opens, h.starts, h.setup, h.streaming, h.closed_end, h.closed_halted⟩

/-- While the run goes on it has not closed the transport. -/
theorem not_closed (h : s.SetupInv) (hs : s.state ≠ Code.sDone ∧ s.state ≠ Code.sAborted) :
    ∀ x ∈ s.trace, x.req ≠ .closeCh := by
  intro x hx hclose
  have hhalted := s.terminal_iff.mp (h.closed_halted ⟨x, hx, hclose⟩)
  exact absurd hhalted (not_or.mpr hs)

/-- Without a request the record is as it was, and neither setting up nor a Streaming phase is next. -/
theorem quiet (h : s.SetupInv) (hgo : t.state ∈ successors s.state)
    (hs : s.state = Code.sStart ∨ s.state = Code.sFailed) (htrace : t.trace = s.trace) :
    t.SetupInv := by
  have hclosed := h.not_closed (not_halted_of_successors hgo)
  obtain ⟨hopen, hsetup, hphase⟩ := successors_quiet hgo hs
  exact {
    opens := by rw [htrace, h.opens, if_neg hopen, if_neg (successors_ne_open hgo)]
    starts := htrace ▸ h.starts
    setup := fun ht => absurd ht hsetup
    streaming := fun ht => absurd ht hphase
    closed_end := htrace ▸ h.closed_end
    closed_halted := fun ⟨x, hx, hclose⟩ => absurd hclose (hclosed x (htrace ▸ hx)) }

/-- One more request leaves at most one start command: before a Streaming phase the only `SEND` is that
of `S_START`, which nothing but setting up precedes. -/
theorem starts_append (h : s.SetupInv)
    (hsend : e.req.isSend = true → s.state = Code.sStart ∨ s.state = Code.sSend) :
    startCommands (s.trace ++ [e]) ≤ 1 := by
  cases hstreamed : streamed s.trace with
  | true =>
    rw [startCommands_streamed _ _ hstreamed]
    exact h.starts
  | false =>
    rw [startCommands_setup _ _ hstreamed]
    split
    · next he =>
      rcases hsend he with hs | hs
      · have hnone : startCommands s.trace = 0 :=
          List.countP_eq_zero.mpr fun x hx => by
            simp [(h.setup (by simp [hs])).1 x ((List.takeWhile_sublist _).subset hx)]
        omega
      · nomatch hstreamed.symm.trans (h.streaming (.inr hs))
    · exact h.starts

/-- One more request: the only one to open the transport is that of `S_OPEN`, which no move enters, and
after that of `S_CLOSE` the run has ended. -/
theorem exchange (h : s.SetupInv) (hgo : t.state ∈ successors s.state)
    (hreq : s.request = some e.req) (htrace : t.trace = s.trace ++ [e]) : t.SetupInv := by
  obtain ⟨hopen, hsend, hrewind, hclose⟩ := State.request_kind hreq
  have hclosed := h.not_closed (not_halted_of_successors hgo)
  constructor
  case opens =>
    rw [htrace, List.countP_append, h.opens, if_neg (successors_ne_open hgo)]
    by_cases hs : s.state = Code.sOpen <;> simp [hs, hopen]
  case starts => exact htrace ▸ h.starts_append hsend.mp
  case setup =>
    intro ht
    obtain ⟨hs, hstart⟩ := settingUp_of_successors hgo ht
    obtain ⟨hsends, hstreamed⟩ := h.setup hs
    have hne : s.state ≠ Code.sSend ∧ s.state ≠ Code.sRewind := by
      rcases hs with hs | hs | hs | hs <;> rw [hs] <;> decide
    have hsend' : e.req.isSend = false := by
      rw [← Bool.not_eq_true, hsend]
      exact not_or.mpr ⟨hstart, hne.1⟩
    rw [htrace, streamed_append, hstreamed]
    exact ⟨List.forall_mem_append.mpr ⟨hsends, List.forall_mem_singleton.mpr hsend'⟩,
      by simpa using mt hrewind.mp hne.2⟩
  case streaming =>
    intro ht
    rw [htrace, streamed_append]
    rcases inPhase_of_successors hgo ht with hs | hs
    · simp [h.streaming hs]
    · simp [hrewind.mpr hs]
  case closed_end =>
    intro pre x post hx hxclose
    rcases split_append (htrace ▸ hx) with ⟨post', -, hold⟩ | ⟨hpost, -, -⟩
    · exact absurd hxclose (hclosed x (hold ▸ by simp))
    · exact hpost
  case closed_halted =>
    rintro ⟨x, hx, hxclose⟩
    rw [htrace] at hx
    rcases List.mem_append.mp hx with hold | hnew
    · exact absurd hxclose (hclosed x hold)
    · obtain rfl := List.mem_singleton.mp hnew
      exact t.terminal_iff.mpr (halted_of_close (hclose.mp hxclose ▸ hgo))

theorem move (h : s.SetupInv) (hm : Move s t) : t.SetupInv := by
  cases hm.advances with
  | hold ht => exact ht ▸ h
  | quiet hgo hs htrace => exact h.quiet hgo hs htrace
  | exchange e hgo hreq htrace => exact h.exchange hgo hreq htrace

end State.SetupInv

/-- Settles O53: a reset establishes the setup invariant and every move keeps it. -/
theorem singleSetupKept : Obligations.SingleSetupKept :=
  fun _ _ hs h => step_keeps (fun _ rest h => h.takeMove rest) (fun _ h => h.setupInv)
    (fun _ _ h hm => h.move hm) hs h

end Sys2Proof.Machine
end

section
/-! PROOF. Every step keeps a heartbeat and a flush right before each Streaming phase (R166 (c)). The
invariant turns on the three moves that record the heartbeat, the flush and the rewind. -/

namespace Sys2Proof.Machine

variable {s t : State} {e : Exchange}

namespace State.HandshakeInv

theorem takeMove (h : s.HandshakeInv) (rest : List HostMove) :
    State.HandshakeInv { s with host := rest } :=
  ⟨h.at_flush, h.at_rewind, h.every⟩

/-- Without a request the record is as it was, and neither `S_FLUSH` nor `S_REWIND` is next. -/
theorem quiet (h : s.HandshakeInv) (hparams : t.params = s.params) (htrace : t.trace = s.trace)
    (ht : t.state ≠ Code.sFlush ∧ t.state ≠ Code.sRewind) : t.HandshakeInv where
  at_flush e := absurd e ht.1
  at_rewind e := absurd e ht.2
  every := by
    rw [hparams, htrace]
    exact h.every

/-- One more exchange: on the way to `S_FLUSH` it is the heartbeat, on the way to `S_REWIND` the flush
after the heartbeat, and a rewind is requested in `S_REWIND` only. -/
theorem exchange (h : s.HandshakeInv) (hparams : t.params = s.params)
    (htrace : t.trace = s.trace ++ [e])
    (hflush : t.state = Code.sFlush → e = heartbeatSeen s.params)
    (hrewind : t.state = Code.sRewind → s.state = Code.sFlush ∧ e = queueFlushed)
    (hreq : e.req = .imgRewind → s.state = Code.sRewind) : t.HandshakeInv where
  at_flush ht := ⟨s.trace, by rw [htrace, hflush ht, hparams]⟩
  at_rewind ht := by
    obtain ⟨hs, he⟩ := hrewind ht
    obtain ⟨pre, hpre⟩ := h.at_flush hs
    exact ⟨pre, by rw [htrace, hpre, he, hparams, List.append_assoc]; rfl⟩
  every pre x post hx hxreq := by
    rw [hparams]
    rcases split_append (htrace ▸ hx) with ⟨post', -, hold⟩ | ⟨-, rfl, rfl⟩
    · exact h.every pre x post' hold hxreq
    · exact h.at_rewind (hreq hxreq)

theorem raiseFatal_state_ne (c : FatalCause) :
    (s.raiseFatal c).state ≠ Code.sFlush ∧ (s.raiseFatal c).state ≠ Code.sRewind := by
  rcases s.raiseFatal_state c with hs | hs <;> rw [hs] <;> decide

theorem move (h : s.HandshakeInv) (hm : Move s t) : t.HandshakeInv := by
  cases hm with
  | hold => exact h
  | startBypass | failed => exact h.quiet rfl rfl (by simp +decide)
  | startNodev => exact h.quiet (s.raiseFatal_params _) (s.raiseFatal_trace _) (raiseFatal_state_ne _)
  | openFail | configFail | goliveFail | startFail | malformed =>
    obtain ⟨hflush, hrewind⟩ := raiseFatal_state_ne _
    exact h.exchange (State.raiseFatal_params _ _) (State.raiseFatal_trace _ _)
      (fun e => absurd e hflush) (fun e => absurd e hrewind) nofun
  | waitOk => exact h.exchange rfl rfl (fun _ => rfl) nofun nofun
  | flushed rest hc => exact h.exchange rfl rfl nofun (fun _ => ⟨hc, rfl⟩) nofun
  | rewound hc => exact h.exchange rfl rfl nofun nofun fun _ => hc
  | _ => exact h.exchange rfl rfl nofun nofun nofun

end State.HandshakeInv

/-- Settles O54: a reset establishes the handshake invariant and every move keeps it. -/
theorem heartbeatBeforeStreamKept : Obligations.HeartbeatBeforeStreamKept :=
  fun _ _ hs h => step_keeps (fun _ rest h => h.takeMove rest) (fun _ h => h.handshakeInv)
    (fun _ _ h hm => h.move hm) hs h

end Sys2Proof.Machine
end

section
/-! PROOF. The results of the handshake operations (R160 to R165): each is a transport request that a
listed answer completes, but for the two arms of `S_START` that ask for nothing. -/

namespace Sys2Proof.Machine

variable {s t : State}

/-- An operation that is a transport request completes on a legal listed answer. -/
theorem exec_listed {i : Instr} {req : Request} {k : Response → State → State} {r : Response}
    {rest : List Response} (hi : exec i s = s.tx req k) (hs : s.script = r :: rest)
    (ha : req.allows s.params r = true) (hk : k r (s.answered req r rest) = t) :
    exec i s = .next t := by
  rw [hi, State.tx_listed hs ha, hk]

/-- Settles O17: no handle is held before `S_OPEN`'s OK, so a FAIL reports and halts. -/
theorem openResult : Obligations.OpenResult := by
  refine ⟨rfl, rfl, fun s rest => ⟨fun h => ?_, fun h => ?_, fun h hlink => ?_⟩⟩
  · exact exec_listed (Eq.refl (execSOpen s)) h rfl rfl
  · exact exec_listed (Eq.refl (execSOpen s)) h rfl rfl
  · exact exec_listed (Eq.refl (execSOpen s)) h rfl
      (State.raiseFatal_unlinked (s.answered .openCh .fail rest) .eOpen hlink)

/-- Settles O18: with the handle held a FAIL leaves the report to `S_CLOSE`. -/
theorem configResult : Obligations.ConfigResult := by
  refine ⟨rfl, fun s rest => ⟨fun h => ?_, fun h => ?_, fun h hlink => ?_⟩⟩
  · exact exec_listed (Eq.refl (execSConfig s)) h rfl rfl
  · exact exec_listed (Eq.refl (execSConfig s)) h rfl rfl
  · exact exec_listed (Eq.refl (execSConfig s)) h rfl
      (State.raiseFatal_linked (s.answered (.configure s.params.bitrate) .fail rest) .eConfig hlink)

/-- Settles O19: as for `S_CONFIG`, with the cause of this operation. -/
theorem goLiveResult : Obligations.GoLiveResult := by
  refine ⟨rfl, fun s rest => ⟨fun h => ?_, fun h => ?_, fun h hlink => ?_⟩⟩
  · exact exec_listed (Eq.refl (execSGolive s)) h rfl rfl
  · exact exec_listed (Eq.refl (execSGolive s)) h rfl rfl
  · exact exec_listed (Eq.refl (execSGolive s)) h rfl
      (State.raiseFatal_linked (s.answered .goLive .fail rest) .eGolive hlink)

/-- Settles O20: the two tests in R223's order, then the start command and its two answers. -/
theorem startResult : Obligations.StartResult := by
  have hsend {s : State} (hb : s.cfg.bypass = false) : ¬ s.cfg.bypass = true := by simp [hb]
  refine ⟨rfl, fun s rest => ⟨fun hb => if_pos hb, fun hb hid => ?_, fun hb hid h => ?_,
    fun hb hid h => ?_⟩⟩
  · exact (if_neg (hsend hb)).trans (if_pos hid)
  · exact exec_listed ((if_neg (hsend hb)).trans (if_neg hid)) h rfl rfl
  · exact exec_listed ((if_neg (hsend hb)).trans (if_neg hid)) h rfl rfl

/-- Settles O21: FAIL and no answer both leave the block in the wait, FAIL with one more exchange. -/
theorem waitHeartbeatResult : Obligations.WaitHeartbeatResult := by
  refine ⟨rfl, fun s rest => ⟨fun h => ?_, fun h => ?_, fun h => ?_⟩⟩
  · exact exec_listed (Eq.refl (execSWaitHb s)) h rfl rfl
  · exact exec_listed (Eq.refl (execSWaitHb s)) h rfl rfl
  · exact (Eq.refl (execSWaitHb s)).trans (State.tx_waits h)

/-- Settles O22: DONE is the one answer that a flush allows (R62). -/
theorem flushResult : Obligations.FlushResult :=
  ⟨rfl, fun s _ h => exec_listed (Eq.refl (execSFlush s)) h rfl rfl⟩

end Sys2Proof.Machine
end

section
/-! PROOF. Every step keeps the data frames numbered in issue order (R185, R187). A Streaming phase is
entered by the rewind only, which sets `CNT` to `CNT_INIT`, and in the phase `CNT` and the request record
change together; the frame that is sent took its counter from `CNT` when its group was complete. -/

namespace Sys2Proof.Machine

variable {s t : State} {e : Exchange} {p : Params} {tr : List Exchange}

/-! ### What a move keeps -/

theorem Move.params_eq (hm : Move s t) : t.params = s.params := by
  cases hm with
  | openFail | configFail | goliveFail | startNodev | startFail | malformed =>
    exact State.raiseFatal_params _ _
  | _ => rfl

/-- The fatal path leaves the Streaming phase (R224). -/
theorem raiseFatal_not_inPhase (c : FatalCause) : ¬ inPhase (s.raiseFatal c).state := by
  rcases s.raiseFatal_state c with hs | hs <;> rw [hs] <;> decide

/-! ### The numbered record -/

/-- The exchange is a data `SEND` whose first two bytes are the counter `c` (R84, R87). -/
def CarriesCounter (p : Params) (c : Nat) (e : Exchange) : Prop :=
  ∃ d1 d2, e.req = .send p.dataId p.dataDlc
    [(countField c).extractLsb' 8 8, (countField c).extractLsb' 0 8, d1, d2] p.tData

/-- One more exchange keeps the record numbered when, as a `SEND` of a Streaming phase, it carries the
next counter. -/
theorem Numbered.append (h : Numbered p tr)
    (he : streamed tr = true → e.req.isSend = true → CarriesCounter p (nextCounter p tr) e) :
    Numbered p (tr ++ [e]) := by
  intro pre x post hx hstreamed hsend
  rcases split_append hx with ⟨post', -, hold⟩ | ⟨-, rfl, rfl⟩
  · exact h pre x post' hold hstreamed hsend
  · exact he hstreamed hsend

/-- The first two bytes of a frame are its counter field (R84). -/
theorem frameBytes_of_counter {f : Frame} {c : Count} (h : f.extractLsb' 16 16 = c) :
    frameBytes f =
      [c.extractLsb' 8 8, c.extractLsb' 0 8, f.extractLsb' 8 8, f.extractLsb' 0 8] := by
  subst h
  simp only [frameBytes, List.cons.injEq, and_true, ← BitVec.toNat_inj, BitVec.extractLsb'_toNat,
    Nat.shiftRight_eq_div_pow]
  omega

/-! ### The order invariant -/

namespace State.OrderInv

theorem takeMove (h : s.OrderInv) (rest : List HostMove) : State.OrderInv { s with host := rest } :=
  ⟨h.setup, h.counter, h.frame_counter, h.numbered⟩

/-- Setting up ends before the first rewind. -/
theorem move_setup (h : s.OrderInv) (hm : Move s t) (ht : settingUp t.state) :
    streamed t.trace = false := by
  cases hm.advances with
  | hold hst => exact hst ▸ h.setup (hst ▸ ht)
  | quiet hgo hs => exact absurd ht (successors_quiet hgo hs).2.1
  | exchange e hgo hreq htrace =>
    obtain ⟨hs, -⟩ := settingUp_of_successors hgo ht
    obtain ⟨-, -, hrewind, -⟩ := State.request_kind hreq
    have hne : s.state ≠ Code.sRewind := by
      rcases hs with hs | hs | hs | hs <;> rw [hs] <;> decide
    rw [htrace, streamed_append, h.setup hs]
    simpa using mt hrewind.mp hne

/-- In a Streaming phase an exchange that neither rewinds nor sends a record leaves `CNT` the number of
the next record. -/
theorem counter_append (h : s.OrderInv) (hs : inPhase s.state) (hrewind : e.req ≠ .imgRewind)
    (hrecord : e.acceptedSend = false) : s.cnt = nextCounter s.params (s.trace ++ [e]) := by
  rw [nextCounter_append _ _ _ hrewind, hrecord]
  exact h.counter hs

/-- An accepted record advances both (R185). -/
theorem counter_append_accepted (h : s.OrderInv) (hs : inPhase s.state)
    (hrewind : e.req ≠ .imgRewind) (hrecord : e.acceptedSend = true) :
    nextCount s.params s.cnt = nextCounter s.params (s.trace ++ [e]) := by
  rw [nextCounter_append _ _ _ hrewind, hrecord, h.counter hs]
  rfl

/-- In a Streaming phase `CNT` is the number of the next record (R180, R185). -/
theorem move_counter (h : s.OrderInv) (hm : Move s t) (ht : inPhase t.state) :
    t.cnt = nextCounter t.params t.trace := by
  cases hm with
  | hold => exact h.counter ht
  | rewound => exact (nextCounter_rewind _ _ _).symm
  | skipped b hc | slot0 b v hc | slot1 b v hc | slot2 b v hc | grouped b v hc =>
    exact h.counter_append (.inl hc) nofun rfl
  | sendAgain rest hc => exact h.counter_append (.inr hc) nofun rfl
  | sendOk rest hc => exact h.counter_append_accepted (.inr hc) nofun rfl
  | openFail | configFail | goliveFail | startNodev | startFail | malformed =>
    exact absurd ht (raiseFatal_not_inPhase _)
  | _ => exact absurd ht (by simp +decide)

/-- The frame of a group is composed with `CNT` (R142), which is kept until the frame is accepted. -/
theorem move_frame_counter (h : s.OrderInv) (hm : Move s t) (ht : t.state = Code.sSend) :
    t.frame.extractLsb' 16 16 = countField t.cnt := by
  cases hm with
  | hold => exact h.frame_counter ht
  | grouped => exact compose_counter _ _ _
  | sendAgain rest hc => exact h.frame_counter hc
  | openFail | configFail | goliveFail | startNodev | startFail | malformed =>
    exact absurd (.inr ht) (raiseFatal_not_inPhase _)
  | _ => nomatch ht

/-- The data message carries the number of its record (R184). -/
theorem carriesCounter (h : s.OrderInv) (hs : s.state = Code.sSend) (he : e.req = s.dataMessage) :
    CarriesCounter s.params (nextCounter s.params s.trace) e := by
  rw [← h.counter (.inr hs)]
  exact ⟨_, _, by rw [he, State.dataMessage, frameBytes_of_counter (h.frame_counter hs)]⟩

theorem move_numbered (h : s.OrderInv) (hm : Move s t) : Numbered t.params t.trace := by
  rw [hm.params_eq]
  cases hm.advances with
  | hold hst => exact hst ▸ h.numbered
  | quiet _ _ htrace => exact htrace ▸ h.numbered
  | exchange e hgo hreq htrace =>
    rw [htrace]
    refine h.numbered.append fun hstreamed hsend => ?_
    obtain ⟨-, hkind, -, -⟩ := State.request_kind hreq
    rcases hkind.mp hsend with hs | hs
    · nomatch hstreamed.symm.trans (h.setup (by simp [hs]))
    · exact h.carriesCounter hs (Option.some.inj (hreq.symm.trans (stateCode_row rfl rfl hs).2))

theorem move (h : s.OrderInv) (hm : Move s t) : t.OrderInv :=
  ⟨h.move_setup hm, h.move_counter hm, h.move_frame_counter hm, h.move_numbered hm⟩

end State.OrderInv

/-- Settles O51: a reset establishes the record order invariant and every move keeps it. -/
theorem recordNumberingKept : Obligations.RecordNumberingKept :=
  fun _ _ hs h => step_keeps (fun _ rest h => h.takeMove rest) (fun _ h => h.orderInv)
    (fun _ _ h hm => h.move hm) hs h

end Sys2Proof.Machine
end

section
/-! PROOF. Every step keeps it so that a failed frame is followed only by itself (R184, R186, R187 (a)). A
failed `SEND` at the end of the request record leaves the block in `S_SEND` with the same message, or on a
failure path, where it cannot send before another request has been answered. -/

namespace Sys2Proof.Machine

variable {s t : State} {e : Exchange}

/-- The codes that a failed `SEND` which is not sent again leads to (R186, R203, R224). -/
abbrev onFailurePath (c : StateCode) : Prop :=
  c = Code.sFailed ∨ c = Code.sWaitHb ∨ c = Code.sClose ∨ c = Code.sAborted

theorem raiseFatal_onFailurePath (c : FatalCause) : onFailurePath (s.raiseFatal c).state :=
  .inr (.inr (s.raiseFatal_state c))

namespace State.ResendInv

theorem takeMove (h : s.ResendInv) (rest : List HostMove) :
    State.ResendInv { s with host := rest } :=
  ⟨h.resend, h.last⟩

/-- Without a request the record is as it was. -/
theorem quiet (h : s.ResendInv) (htrace : t.trace = s.trace) (ht : onFailurePath t.state) :
    t.ResendInv where
  resend := htrace ▸ h.resend
  last _ _ _ _ := .inr ht

/-- A `SEND` right after a failed one is that of `S_SEND`, and so the same. -/
theorem req_eq_of_last (h : s.ResendInv) {pre : List Exchange} {x : Exchange}
    (hlast : s.trace = pre ++ [x]) (hx : x.failedSend = true)
    (he : s.state = Code.sStart ∨ (s.state = Code.sSend ∧ e.req = s.dataMessage)) :
    e.req = x.req := by
  rcases h.last pre x hlast hx with ⟨hs, hreq⟩ | hpath
  · rcases he with hs' | ⟨-, hreq'⟩
    · nomatch hs.symm.trans hs'
    · exact hreq'.trans hreq.symm
  · have hs : s.state = Code.sStart ∨ s.state = Code.sSend := he.imp_right And.left
    rcases hs with hs | hs <;> rw [hs] at hpath <;> simp +decide at hpath

/-- One more exchange: a `SEND` is asked for in `S_START` and `S_SEND` only, and when it fails the block
sends it again or is on a failure path. -/
theorem exchange (h : s.ResendInv) (htrace : t.trace = s.trace ++ [e])
    (hsend : e.req.isSend = true →
      s.state = Code.sStart ∨ (s.state = Code.sSend ∧ e.req = s.dataMessage))
    (hfailed : e.failedSend = true →
      (t.state = Code.sSend ∧ e.req = t.dataMessage) ∨ onFailurePath t.state) :
    t.ResendInv where
  resend pre x y post hx hxfailed hysend := by
    rw [htrace, List.append_cons pre] at hx
    rcases split_append hx with ⟨post', -, hold⟩ | ⟨-, hlast, rfl⟩
    · exact h.resend pre x y post' (hold.trans (List.append_cons pre x _).symm) hxfailed hysend
    · exact h.req_eq_of_last hlast.symm hxfailed (hsend hysend)
  last pre x hx hxfailed := by
    obtain ⟨-, hxe⟩ := List.append_inj' (htrace.symm.trans hx) rfl
    obtain rfl : e = x := List.singleton_injective hxe
    exact hfailed hxfailed

theorem move (h : s.ResendInv) (hm : Move s t) : t.ResendInv := by
  cases hm with
  | hold => exact h
  | startBypass | failed => exact h.quiet rfl (.inr (.inl rfl))
  | startNodev => exact h.quiet (s.raiseFatal_trace _) (raiseFatal_onFailurePath _)
  | startOk rest hc => exact h.exchange rfl (fun _ => .inl hc) nofun
  | startFail rest hc =>
    exact h.exchange (State.raiseFatal_trace _ _) (fun _ => .inl hc)
      fun _ => .inr (raiseFatal_onFailurePath _)
  | sendOk rest hc => exact h.exchange rfl (fun _ => .inr ⟨hc, rfl⟩) nofun
  | sendLimit rest hc =>
    exact h.exchange rfl (fun _ => .inr ⟨hc, rfl⟩) fun _ => .inr (.inl rfl)
  | sendAgain rest hc =>
    exact h.exchange rfl (fun _ => .inr ⟨hc, rfl⟩) fun _ => .inl ⟨rfl, rfl⟩
  | openFail | configFail | goliveFail | malformed =>
    exact h.exchange (State.raiseFatal_trace _ _) nofun nofun
  | _ => exact h.exchange rfl nofun nofun

end State.ResendInv

/-- Settles O52: a reset establishes the resend invariant and every move keeps it. -/
theorem identicalResendKept : Obligations.IdenticalResendKept :=
  fun _ _ hs h => step_keeps (fun _ rest h => h.takeMove rest) (fun _ h => h.resendInv)
    (fun _ _ h hm => h.move hm) hs h

end Sys2Proof.Machine
end

section
/-! PROOF. The results of the streaming operations (R180 to R186) and the runs of failures that the retry
limit ends, or nothing ends (R186, R188). The nibble classes and `S_FETCH` on a nibble are one operation;
a failed send has two arms, chosen by the limit. -/

namespace Sys2Proof.Machine

variable {s : State} {b v : Byte} {i : Instr} {rest : List Response}

/-! ### Nibbles (R182) -/

/-- The operation reads the byte `b` and decodes it to the nibble `v` (R120, R122 to R124). -/
def Decodes (s : State) (b v : Byte) (i : Instr) : Prop :=
  (i = .nibDigit b ∧ v = digitNibble s.params b) ∨
  (i = .nibAt ∧ b = atByte ∧ v = digitNibble s.params b) ∨
  (i = .nibAlpha b ∧ v = alphaNibble s.params b) ∨
  (i = .sFetch ∧ s.image[s.imgPos]? = some b ∧ dec s.params b = .nib v)

/-- Such an operation is the nibble arm after the byte has been read (log entry 12). -/
theorem Decodes.exec_eq (h : Decodes s b v i) : exec i s = .next ((s.imgByte b).collect v) := by
  rcases h with ⟨rfl, rfl⟩ | ⟨rfl, rfl, rfl⟩ | ⟨rfl, rfl⟩ | ⟨rfl, hb, hd⟩
  · rfl
  · rfl
  · rfl
  · exact execSFetch_nibble hb hd

/-- The Reject-mode check (R125, R182). -/
theorem State.collect_rejected (hc : s.cfg.check = true) (hv : 15 < v.toNat) :
    s.collect v = s.raiseFatal .eMalformed := by
  have hvalid : valid v = false := by
    rw [← Bool.not_eq_true, valid_iff]
    omega
  exact if_pos (by simp [hc, hvalid])

/-- Settles O25: the nibble arm by the four values of `NIBCNT`. -/
theorem nibbleCollected : Obligations.NibbleCollected := by
  intro s b v i hi hok
  have hexec : exec i s = .next ((s.imgByte b).collect v) := Decodes.exec_eq hi
  rw [hexec]
  rcases (s.imgByte b).collect_cases v with ⟨hc, hv, -⟩ | ⟨-, hslot⟩
  · have hc' : s.cfg.check = true := hc
    have hv' : ¬ v.toNat ≤ 15 := by simp [← valid_iff, hv]
    simp [hc', hv'] at hok
  · rw [State.imgByte_nibCnt] at hslot
    rcases hslot with ⟨hn, e⟩ | ⟨hn, e⟩ | ⟨hn, e⟩ | ⟨hn, e⟩ <;> rw [hn, e]
    · exact ⟨fun _ => rfl, nofun, nofun, nofun⟩
    · exact ⟨nofun, fun _ => rfl, nofun, nofun⟩
    · exact ⟨nofun, nofun, fun _ => rfl, nofun⟩
    · exact ⟨nofun, nofun, nofun, fun _ => rfl⟩

/-- Settles O26: the two ends of the fatal path. -/
theorem malformedNibbleAborts : Obligations.MalformedNibbleAborts := by
  intro s b v i hi hc hv
  have hexec : exec i s = .next ((s.imgByte b).raiseFatal .eMalformed) :=
    (Decodes.exec_eq hi).trans (congrArg _ (State.collect_rejected (s := s.imgByte b) hc hv))
  rw [hexec]
  exact ⟨fun hlink => congrArg _ (State.raiseFatal_linked (s := s.imgByte b) .eMalformed hlink),
    fun hlink => congrArg _ (State.raiseFatal_unlinked (s := s.imgByte b) .eMalformed hlink)⟩

/-! ### The ends of a Streaming phase (R180, R183) -/

/-- Settles O23: the rewind has one response (R53). -/
theorem rewindResult : Obligations.RewindResult := ⟨rfl, fun _ => rfl⟩

/-- Settles O27: past its last byte the image has no more (R54). -/
theorem imageEndResult : Obligations.ImageEndResult :=
  ⟨rfl, fun _ hend => execSFetch_end (List.getElem?_eq_none hend)⟩

/-! ### Sending (R184 to R186) -/

/-- Settles O28: the OK arm of `S_SEND`. -/
theorem acceptedFrameResult : Obligations.AcceptedFrameResult :=
  ⟨rfl, fun s _ h => exec_listed (Eq.refl (execSSend s)) h rfl rfl⟩

theorem limitReached_eq_true_iff {limit r : BitVec 32} :
    limitReached limit r = true ↔ limit ≠ 0 ∧ limit.toNat ≤ r.toNat :=
  decide_eq_true_iff

theorem limitReached_eq_false_iff {limit r : BitVec 32} :
    limitReached limit r = false ↔ limit = 0 ∨ r.toNat < limit.toNat := by
  rw [← Bool.not_eq_true, limitReached_eq_true_iff, not_and_or, not_not, not_le]

/-- The FAIL arm of `S_SEND` below the limit (R186). -/
theorem execSSend_failAgain (hscript : s.script = .fail :: rest)
    (hlimit : s.cfg.retryLimit = 0 ∨ (nextRetry s.retry).toNat < s.cfg.retryLimit.toNat) :
    exec .sSend s = .next { s.answered s.dataMessage .fail rest with
      retry := nextRetry s.retry, state := Code.sSend } :=
  exec_listed (Eq.refl (execSSend s)) hscript rfl
    (if_neg (Bool.eq_false_iff.mp (limitReached_eq_false_iff.mpr hlimit)))

/-- The FAIL arm of `S_SEND` at the limit (R186). -/
theorem execSSend_failLimit (hscript : s.script = .fail :: rest) (hset : s.cfg.retryLimit ≠ 0)
    (hlimit : s.cfg.retryLimit.toNat ≤ (nextRetry s.retry).toNat) :
    exec .sSend s = .next { s.answered s.dataMessage .fail rest with
      retry := nextRetry s.retry, cause := SoftCause.fSendLimit.code, state := Code.sFailed } :=
  exec_listed (Eq.refl (execSSend s)) hscript rfl
    (if_pos (limitReached_eq_true_iff.mpr ⟨hset, hlimit⟩))

/-- Settles O29: the two FAIL arms, with `RETRY` given by its number. -/
theorem failedSendResult : Obligations.FailedSendResult := by
  refine ⟨rfl, fun s rest r hscript hr => ?_⟩
  obtain rfl : r = nextRetry s.retry :=
    BitVec.eq_of_toNat_eq (hr.trans (nextRetry_toNat _).symm)
  exact ⟨execSSend_failAgain hscript, execSSend_failLimit hscript⟩

/-! ### Failures in a row -/

theorem nextRetry_ofNat {k : Nat} (hk : k + 1 < 2 ^ 32) :
    nextRetry (BitVec.ofNat 32 k) = BitVec.ofNat 32 (k + 1) := by
  apply BitVec.eq_of_toNat_eq
  rw [nextRetry_toNat, BitVec.toNat_ofNat, BitVec.toNat_ofNat]
  omega

/-- From 0 on, `RETRY` counts the failures. -/
theorem nextRetry_iterate {k : Nat} (hk : k < 2 ^ 32) : nextRetry^[k] 0 = BitVec.ofNat 32 k := by
  induction k with
  | zero => rfl
  | succ k ih => rw [Function.iterate_succ_apply', ih (by omega), nextRetry_ofNat hk]

/-- The state after `n` failures in a row from `RETRY` 0, with the answers `rest` to come. -/
def State.afterFailures (s : State) (n : Nat) (rest : List Response) : State :=
  { s with
    retry := BitVec.ofNat 32 n, script := rest,
    trace := s.trace ++ List.replicate n ⟨frameMessage s.params s.frame, .fail⟩ }

section

variable {k : Nat} (hs : s.state = Code.sSend) (hh : s.host = []) (hretry : s.retry = 0)
include hs hh hretry

theorem run_failuresBelowLimit (hscript : s.script = List.replicate k .fail ++ rest)
    (hk : k < s.cfg.retryLimit.toNat) :
    Host.Core.run Sys2Proof.core k s = .next (s.afterFailures k rest) := by
  have hbound := s.cfg.retryLimit.isLt
  rw [run_failedSends k hs hh hscript (.inr (by simpa [hretry] using hk)), hretry,
    nextRetry_iterate (by omega)]
  rfl

/-- The failure that reaches the limit takes the soft path (R186, R226). -/
theorem run_failuresToLimit (hk : s.cfg.retryLimit.toNat = k + 1)
    (hscript : s.script = List.replicate (k + 1) .fail ++ rest) :
    Host.Core.run Sys2Proof.core (k + 1) s = .next { s.afterFailures (k + 1) rest with
      cause := SoftCause.fSendLimit.code, state := Code.sFailed } := by
  have hbound := s.cfg.retryLimit.isLt
  have hcount : nextRetry (BitVec.ofNat 32 k) = BitVec.ofNat 32 (k + 1) :=
    nextRetry_ofNat (by omega)
  have hset : s.cfg.retryLimit ≠ 0 := by
    intro h
    simp [h] at hk
  have hreached : s.cfg.retryLimit.toNat ≤ (nextRetry (BitVec.ofNat 32 k)).toNat := by
    rw [hcount, BitVec.toNat_ofNat]
    omega
  have hbelow := run_failuresBelowLimit hs hh hretry (k := k) (rest := .fail :: rest)
    (by simp [hscript, List.replicate_succ']) (by omega)
  have hlast := (step_selected (s := s.afterFailures k (.fail :: rest)) hs hh).trans
    (execSSend_failLimit rfl hset hreached)
  rw [run_add k 1 hbelow, run_succ 0 hlast]
  simp [Host.Core.run, State.afterFailures, State.answered, dataMessage_eq, List.replicate_succ',
    hcount]

end

/-- Settles O58: the failures before the last are below the limit, and the last reaches it. -/
theorem retryLimitEndsAttempt : Obligations.RetryLimitEndsAttempt := by
  intro s rest k hs hh hretry hset hscript hk
  rcases hk.lt_or_eq with hlt | heq
  · have hsplit : s.script = List.replicate k .fail ++
        (List.replicate (s.cfg.retryLimit.toNat - k) .fail ++ rest) := by
      rw [hscript, ← List.append_assoc, List.replicate_append_replicate, Nat.add_sub_cancel' hk]
    exact ⟨_, run_failuresBelowLimit hs hh hretry hsplit hlt, rfl, rfl, rfl, fun _ => ⟨hs, rfl⟩,
      fun heq => absurd heq hlt.ne⟩
  · obtain ⟨j, rfl⟩ : ∃ j, k = j + 1 :=
      Nat.exists_eq_succ_of_ne_zero fun h => hset (BitVec.eq_of_toNat_eq (heq.symm.trans h))
    rw [← heq] at hscript
    exact ⟨_, run_failuresToLimit hs hh hretry heq.symm hscript, rfl, rfl, rfl,
      fun hlt => absurd heq hlt.ne, fun _ => ⟨rfl, rfl, rfl⟩⟩

/-- Settles O59: with no limit set every failure is below it. -/
theorem unboundedResendNeverGivesUp : Obligations.UnboundedResendNeverGivesUp :=
  fun _ _ k hs hh hlimit hscript =>
    ⟨_, run_failedSends k hs hh hscript (.inl hlimit), hs, rfl, rfl, rfl, rfl, rfl, rfl⟩

end Sys2Proof.Machine
end

section
/-! PROOF. Every step keeps it so that a run is done only after an accepted acknowledgement (R208 (c)).
Three moves build the end of the request record one exchange after the other: the OK to the filtered
receive, the accepted message, and the close. Every other move leads elsewhere. -/

namespace Sys2Proof.Machine

variable {s t : State}

namespace State.AckInv

theorem takeMove (h : s.AckInv) (rest : List HostMove) : State.AckInv { s with host := rest } :=
  ⟨h.at_read, h.at_close, h.at_done⟩

/-- In the other states the invariant asks for nothing. -/
theorem elsewhere
    (ht : t.state ≠ Code.sAckRead ∧ t.state ≠ Code.sClose ∧ t.state ≠ Code.sDone) : t.AckInv :=
  ⟨fun e => absurd e ht.1, fun e => absurd e ht.2.1, fun e => absurd e ht.2.2⟩

/-- The fatal path ends in `S_CLOSE` or `S_ABORTED` with a cause other than `NONE` (R224). -/
theorem raiseFatal (c : FatalCause) : (s.raiseFatal c).AckInv := by
  have hne : (s.raiseFatal c).state ≠ Code.sAckRead ∧ (s.raiseFatal c).state ≠ Code.sDone := by
    rcases s.raiseFatal_state c with hs | hs <;> rw [hs] <;> decide
  exact ⟨fun e => absurd e hne.1, fun _ hc => absurd hc (by simp), fun e => absurd e hne.2⟩

/-- The message accepted in `S_ACK_READ` stands right after the OK to the filtered receive (R202). -/
theorem readGood {rest : List Response} {id dlc : Nat} {data : List Byte} (h : s.AckInv)
    (hs : s.state = Code.sAckRead) (hack : ackAccepted s.params dlc data = true) :
    State.AckInv { s.supplied.answered (.recv s.params.tAck) (.msg id dlc data) rest with
      cause := noCause, state := Code.sClose } where
  at_read := nofun
  at_close _ _ := by
    obtain ⟨pre, hpre⟩ := h.at_read hs
    exact ⟨pre, id, dlc, data, by simp [hpre], hack⟩
  at_done := nofun

/-- With `CAUSE` = `NONE` the close of `S_CLOSE` stands right after the accepted message (R204). -/
theorem closedDone {r : Response} {rest : List Response} {reports : List Report} {e : Bool}
    (h : s.AckInv) (hs : s.state = Code.sClose) (hcause : s.cause = noCause) :
    State.AckInv { s.supplied.answered .closeCh r rest with
      link := false, closeErr := e, reports := reports, state := Code.sDone } where
  at_read := nofun
  at_close := nofun
  at_done _ := by
    obtain ⟨pre, id, dlc, data, hpre, hack⟩ := h.at_close hs hcause
    exact ⟨pre, id, dlc, data, r, by simp [hpre], hack⟩

theorem move (h : s.AckInv) (hm : Move s t) : t.AckInv := by
  cases hm with
  | hold => exact h
  | ackOk => exact ⟨fun _ => ⟨s.trace, rfl⟩, nofun, nofun⟩
  | readGood rest id dlc data hc _ _ hack => exact h.readGood hc hack
  | closedDone r rest hc _ _ hcause => exact h.closedDone hc hcause
  | openFail | configFail | goliveFail | startNodev | startFail | malformed => exact raiseFatal _
  | _ => exact elsewhere (by simp +decide)

end State.AckInv

/-- Settles O55: a reset establishes the acknowledgement invariant and every move keeps it. -/
theorem doneNeedsAckKept : Obligations.DoneNeedsAckKept :=
  fun _ _ hs h => step_keeps (fun _ rest h => h.takeMove rest) (fun _ h => h.ackInv)
    (fun _ _ h hm => h.move hm) hs h

end Sys2Proof.Machine
end

section
/-! PROOF. The results of the completion operations (R200 to R204). Of a message, `S_ACK_READ` reads the
byte `ACK_INDEX` only: a legal message has as many bytes as its length says, so the length test of R202
asks no more than that the byte is there. -/

namespace Sys2Proof.Machine

variable {s : State} {p : Params} {id dlc : Nat} {data : List Byte} {rest : List Response}

/-! ### The acknowledgement test (R89, R202) -/

theorem ackAccepted_iff : ackAccepted p dlc data = true ↔
    p.ackIndex < dlc ∧ data[p.ackIndex]? = some p.ackValue :=
  decide_eq_true_iff

/-- Where the message has as many bytes as its length says, the test is on one byte. -/
theorem ackAccepted_iff_byte (hlen : data.length = dlc) :
    ackAccepted p dlc data = true ↔ data[p.ackIndex]? = some p.ackValue := by
  rw [ackAccepted_iff, and_iff_right_iff_imp]
  intro hbyte
  exact hlen ▸ (List.getElem?_eq_some_iff.mp hbyte).1

/-- A legal message: but for its exchange, all that it leaves is the outcome of the test. -/
theorem execSAckRead_msg (hscript : s.script = .msg id dlc data :: rest)
    (hid : id < 2 ^ s.params.idW) (hdlc : dlc ≤ 8) (hlen : data.length = dlc) :
    exec .sAckRead s = .next { s with
      script := rest, trace := s.trace ++ [⟨.recv s.params.tAck, .msg id dlc data⟩],
      cause := if ackAccepted s.params dlc data then noCause else SoftCause.fAckValue.code,
      state := if ackAccepted s.params dlc data then Code.sClose else Code.sFailed } := by
  refine exec_listed (Eq.refl (execSAckRead s)) hscript
    ((allows_recv_msg _ _ _ _ _).mpr ⟨hid, hdlc, hlen⟩) ?_
  cases hack : ackAccepted s.params dlc data with
  | true => exact if_pos hack
  | false => exact if_neg (Bool.eq_false_iff.mp hack)

/-! ### The obligations -/

/-- Settles O30: the two answers that the filtered receive allows (R60). -/
theorem ackWaitResult : Obligations.AckWaitResult :=
  ⟨rfl, fun s _ => ⟨fun h => exec_listed (Eq.refl (execSAckWait s)) h rfl rfl,
    fun h => exec_listed (Eq.refl (execSAckWait s)) h rfl rfl⟩⟩

/-- Settles O31: a message that passes both parts of the test, one that fails a part, and FAIL. -/
theorem ackReadResult : Obligations.AckReadResult := by
  refine ⟨rfl, fun s rest => ⟨fun id dlc data hscript hid hdlc hlen => ?_,
    fun h => exec_listed (Eq.refl (execSAckRead s)) h rfl rfl⟩⟩
  rw [execSAckRead_msg hscript hid hdlc hlen]
  refine ⟨fun hlong hvalue => ?_, fun hbad => ?_⟩
  · have hack : ackAccepted s.params dlc data = true := ackAccepted_iff.mpr ⟨hlong, hvalue⟩
    rw [hack]
    rfl
  · have hack : ackAccepted s.params dlc data = false := by
      rwa [Bool.eq_false_iff, ne_eq, ackAccepted_iff, not_and_or, not_lt]
    rw [hack]
    rfl

/-- Settles O32: messages that agree in the byte `ACK_INDEX` have the same outcome of the test. -/
theorem ackDependsOnOneByte : Obligations.AckDependsOnOneByte := by
  intro s t id id' dlc dlc' data data' rest hid hdlc hlen hid' hdlc' hlen' hbyte h
  have htest : ackAccepted s.params dlc' data' = ackAccepted s.params dlc data := by
    rw [Bool.eq_iff_iff, ackAccepted_iff_byte hlen, ackAccepted_iff_byte hlen', hbyte]
  cases (execSAckRead_msg (s := { s with script := .msg id dlc data :: rest })
    rfl hid hdlc hlen).symm.trans h
  rw [execSAckRead_msg (s := { s with script := .msg id' dlc' data' :: rest }) rfl hid' hdlc' hlen',
    htest]

/-- Settles O33: the report and the return of the soft path (R228) write nothing else. -/
theorem failedAttemptResult : Obligations.FailedAttemptResult :=
  ⟨rfl, fun _ => rfl⟩

/-- Settles O34: the handle is released on either answer, and `CAUSE` alone chooses the end. -/
theorem closeResult : Obligations.CloseResult := by
  refine ⟨rfl, fun s rest r hscript hr => ?_⟩
  have hallowed := (allows_closeCh s.params r).mpr hr
  exact ⟨fun hc => exec_listed (Eq.refl (execSClose s)) hscript hallowed (if_pos hc),
    fun hc => exec_listed (Eq.refl (execSClose s)) hscript hallowed (if_neg hc)⟩

end Sys2Proof.Machine
end

section
/-! PROOF. Runs cut short: a run of one step, the first steps of a run, and the states along a run whose
host is idle. -/

namespace Sys2Proof.Machine

variable {s t u : State} {j k : ℕ}

/-- A run of one step is the step. -/
theorem run_one (s : State) : Host.Core.run Sys2Proof.core 1 s = step s := by
  have hstep : Sys2Proof.core.step s = step s := rfl
  cases hs : step s <;> simp only [Host.Core.run, hstep.trans hs] <;> rfl

/-- The first steps of a run that succeeds succeed, and the others go on from there. -/
theorem run_split (h : Host.Core.run Sys2Proof.core (j + k) s = .next u) :
    ∃ t, Host.Core.run Sys2Proof.core j s = .next t ∧ Host.Core.run Sys2Proof.core k t = .next u := by
  induction j generalizing s with
  | zero => exact ⟨s, rfl, by rwa [Nat.zero_add] at h⟩
  | succ j ih =>
    have hstep : Sys2Proof.core.step s = step s := rfl
    rw [Nat.succ_add] at h
    cases hs : step s with
    | next s' =>
      rw [run_succ _ hs] at h
      obtain ⟨t, hj, hk⟩ := ih h
      exact ⟨t, (run_succ j hs).trans hj, hk⟩
    | fault f => simp [Host.Core.run, hstep.trans hs] at h
    | refused r => simp [Host.Core.run, hstep.trans hs] at h

/-- A host with no moves left stays idle. -/
theorem step_idle_host (h : step s = .next t) (hh : s.host = []) : t.host = [] := by
  obtain ⟨-, -, -, hhost, -⟩ := environmentFrame _ s t ((step_idle hh).symm.trans h)
  rw [hhost, hh]

theorem run_idle (h : Host.Core.run Sys2Proof.core k s = .next t) (hh : s.host = []) :
    t.host = [] := by
  induction k generalizing s with
  | zero => exact Host.Outcome.next.inj h ▸ hh
  | succ k ih =>
    rw [Nat.add_comm] at h
    obtain ⟨s', hs, hk⟩ := run_split h
    exact ih hk (step_idle_host ((run_one s).symm.trans hs) hh)

/-- A halted block stays so (R252). -/
theorem run_halted (k : ℕ) (ht : s.terminal = true) (hh : s.host = []) :
    Host.Core.run Sys2Proof.core k s = .next s := by
  refine run_fixed k ?_
  rcases s.terminal_iff.mp ht with hs | hs
  · exact step_selected hs hh
  · exact step_selected hs hh

/-- No state on the way to one that is not halted is halted. -/
theorem running_of_run (hj : Host.Core.run Sys2Proof.core j s = .next t)
    (hk : Host.Core.run Sys2Proof.core k t = .next u) (hh : s.host = [])
    (hu : u.terminal = false) : t.terminal = false := by
  by_contra ht
  rw [Bool.not_eq_false] at ht
  have htu : t = u := Host.Outcome.next.inj ((run_halted k ht (run_idle hj hh)).symm.trans hk)
  simp [← htu, ht] at hu

end Sys2Proof.Machine
end

section
/-! PROOF. Where a run that never ends stays (R207, R266). Every move brings the end of the run nearer,
along the path of the states or through the image, but for a request that is not answered, a failed
heartbeat wait, a failed send, and the moves of a failed attempt. So a run in which attempts fail only
so often comes to one of the other three and stays there. -/

namespace Sys2Proof.Machine

variable {s t u : State}

/-! ### How far the end of the run is -/

/-- The states that are still ahead on the path to the end; `S_FETCH` and `S_SEND` share a place. -/
def placesAhead (c : StateCode) : Nat := if c = Code.sSend then 8 else 15 - c.toNat

/-- The places ahead, and then the image bytes not yet read with the record under way. -/
def State.distance (s : State) : ℕ ×ₗ ℕ :=
  toLex (placesAhead s.state,
    2 * (s.image.length - s.imgPos) + if s.state = Code.sSend then 1 else 0)

theorem distance_lt_of_places {c c' : StateCode} (hs : s.state = c) (ht : t.state = c')
    (h : placesAhead c' < placesAhead c) : t.distance < s.distance := by
  subst hs ht
  exact Prod.Lex.toLex_lt_toLex.mpr (.inl h)

/-- A byte read counts for more than the record that it may complete. -/
theorem distance_lt_of_byte {b : Byte} (hs : s.state = Code.sFetch) (hb : s.imgPeek = some b)
    (ht : inPhase t.state) (himage : t.image = s.image) (hpos : t.imgPos = s.imgPos + 1) :
    t.distance < s.distance := by
  have hlt : s.imgPos < s.image.length := (List.getElem?_eq_some_iff.mp hb).1
  refine Prod.Lex.toLex_lt_toLex.mpr (.inr ?_)
  rw [hs, himage, hpos]
  rcases ht with ht | ht <;> rw [ht]
  · exact ⟨rfl, by simp +decide; omega⟩
  · exact ⟨rfl, by simp +decide; omega⟩

theorem distance_lt_of_record (hs : s.state = Code.sSend) (ht : t.state = Code.sFetch)
    (himage : t.image = s.image) (hpos : t.imgPos = s.imgPos) : t.distance < s.distance := by
  refine Prod.Lex.toLex_lt_toLex.mpr (.inr ?_)
  rw [hs, ht, himage, hpos]
  exact ⟨rfl, by simp +decide⟩

theorem raiseFatal_distance_lt {c : StateCode} {cause : FatalCause} (hs : s.state = c)
    (h : placesAhead Code.sClose < placesAhead c) : (u.raiseFatal cause).distance < s.distance := by
  rcases u.raiseFatal_state cause with hu | hu
  · exact distance_lt_of_places hs hu h
  · exact distance_lt_of_places hs hu (lt_trans (by decide) h)

/-- A failed heartbeat wait (R164) or a failed send (R186): the block stays where it is. -/
structure TriesAgain (s t : State) : Prop where
  state : t.state = s.state
  place : s.state = Code.sWaitHb ∨ s.state = Code.sSend
  distance : t.distance = s.distance

/-- What a move that belongs to no failed attempt can do. -/
theorem Move.nearer (hm : Move s t) (hs : s.state ≠ Code.sFailed) (ht : t.state ≠ Code.sFailed) :
    t = s ∨ TriesAgain s t ∨ t.distance < s.distance := by
  cases hm with
  | hold => exact .inl rfl
  | waitFail rest hc => exact .inr (.inl ⟨hc.symm, .inl hc, by simp [State.distance, hc]⟩)
  | sendAgain rest hc => exact .inr (.inl ⟨hc.symm, .inr hc, by simp [State.distance, hc]⟩)
  | failed hc => exact absurd hc hs
  | sendLimit | ackFail | readFail | readBad => exact absurd rfl ht
  | skipped b hc hb | slot0 b v hc hb | slot1 b v hc hb | slot2 b v hc hb =>
    exact .inr (.inr (distance_lt_of_byte hc hb (.inl rfl) rfl rfl))
  | grouped b v hc hb => exact .inr (.inr (distance_lt_of_byte hc hb (.inr rfl) rfl rfl))
  | sendOk rest hc => exact .inr (.inr (distance_lt_of_record hc rfl rfl rfl))
  | openFail rest hc | configFail rest hc | goliveFail rest hc | startNodev hc | startFail rest hc
  | malformed b v hc => exact .inr (.inr (raiseFatal_distance_lt hc (by decide)))
  | openOk rest hc | configOk rest hc | goliveOk rest hc | startBypass hc | startOk rest hc
  | waitOk rest hc | flushed rest hc | rewound hc | imageEnd hc | ackOk rest hc
  | readGood rest id dlc data hc | closedDone r rest hc | closedAborted r rest hc =>
    exact .inr (.inr (distance_lt_of_places hc rfl (by dsimp only; decide)))

/-! ### Endless runs -/

/-- `run` is the run from `s` on, with an idle host: `run k` is the state after `k` steps. -/
structure EndlessRun (s : State) (run : ℕ → State) : Prop where
  idle : s.host = []
  steps : ∀ k, Host.Core.run Sys2Proof.core k s = .next (run k)

namespace EndlessRun

variable {run : ℕ → State}

theorem run_from (h : EndlessRun s run) (j k : ℕ) :
    Host.Core.run Sys2Proof.core k (run j) = .next (run (j + k)) :=
  (run_add j k (h.steps j)).symm.trans (h.steps (j + k))

theorem step_eq (h : EndlessRun s run) (k : ℕ) : step (run k) = .next (run (k + 1)) :=
  (run_one _).symm.trans (h.run_from k 1)

theorem host_eq (h : EndlessRun s run) (k : ℕ) : (run k).host = [] :=
  run_idle (h.steps k) h.idle

theorem move (h : EndlessRun s run) (k : ℕ) : Move (run k) (run (k + 1)) :=
  exec_move ((step_idle (h.host_eq k)).symm.trans (h.step_eq k))

/-- A step that changes nothing is the last that could have. -/
theorem stuck (h : EndlessRun s run) {n : ℕ} (hn : run (n + 1) = run n) : ∀ k ≥ n, run k = run n := by
  intro k hk
  obtain ⟨j, rfl⟩ := Nat.exists_eq_add_of_le hk
  have hfixed : step (run n) = .next (run n) := (h.step_eq n).trans (congrArg _ hn)
  exact Host.Outcome.next.inj ((h.run_from n j).symm.trans (run_fixed j hfixed))

/-- Where every step changes something and no attempt fails any more, the block tries again for ever,
because the end cannot come nearer for ever. -/
theorem triesAgain (h : EndlessRun s run) {n : ℕ} (hfailed : ∀ k ≥ n, (run k).state ≠ Code.sFailed)
    (hchanges : ∀ k, run (k + 1) ≠ run k) : ∃ m, ∀ k ≥ m, TriesAgain (run k) (run (k + 1)) := by
  have hmove (k : ℕ) (hk : k ≥ n) : TriesAgain (run k) (run (k + 1)) ∨
      (run (k + 1)).distance < (run k).distance :=
    ((h.move k).nearer (hfailed k hk) (hfailed (k + 1) (by omega))).resolve_left (hchanges k)
  have hanti : Antitone fun k => (run (n + k)).distance :=
    antitone_nat_of_succ_le fun k => by
      rcases hmove (n + k) (by omega) with hagain | hlt
      · exact hagain.distance.le
      · exact hlt.le
  obtain ⟨m, hm⟩ := WellFoundedLT.antitone_chain_condition hanti
  refine ⟨n + m, fun k hk => (hmove k (by omega)).resolve_right ?_⟩
  obtain ⟨j, rfl⟩ := Nat.exists_eq_add_of_le hk
  have hconst : (run (n + (m + j))).distance = (run (n + (m + j + 1))).distance :=
    (hm (m + j) (by omega)).symm.trans (hm (m + j + 1) (by omega))
  simpa [add_assoc] using hconst.not_gt

end EndlessRun

/-- Trying again for ever is trying the same for ever. -/
theorem state_eq_of_triesAgain {run : ℕ → State} {c : StateCode} {m : ℕ}
    (hm : ∀ k ≥ m, TriesAgain (run k) (run (k + 1)))
    (hc : (run m).state = c) : ∀ k ≥ m, (run k).state = c := by
  intro k hk
  induction k, hk using Nat.le_induction with
  | base => exact hc
  | succ k hk ih => rw [(hm k hk).state, ih]

/-- Settles O9: unless attempts fail again and again, or the run is stuck at a request, it tries again
for ever in one of the two states that do. -/
theorem endlessRunStays : Obligations.EndlessRunStays := by
  intro s run hidle hrun
  have h : EndlessRun s run := ⟨hidle, fun k => (hrun k).1⟩
  by_cases hfailed : ∀ n, ∃ k ≥ n, (run k).state = Code.sFailed
  · exact .inr (.inr (.inr hfailed))
  by_cases hstuck : ∃ n, run (n + 1) = run n
  · obtain ⟨n, hn⟩ := hstuck
    exact .inr (.inr (.inl ⟨n, h.stuck hn⟩))
  push Not at hfailed hstuck
  obtain ⟨n, hn⟩ := hfailed
  obtain ⟨m, hm⟩ := h.triesAgain hn hstuck
  rcases (hm m le_rfl).place with hc | hc
  · exact .inl ⟨m, state_eq_of_triesAgain hm hc⟩
  · exact .inr (.inl ⟨m, state_eq_of_triesAgain hm hc⟩)

end Sys2Proof.Machine
end

section
/-! PROOF. The runs that never end (R207, R266), with a transport that repeats its answers: where they are
used up they begin again, so that a heartbeat wait, a send with no limit, or a whole attempt that fails
comes back to where it was with the same answers to come. -/

namespace Sys2Proof.Machine

variable {s t : State} {fails : List Nat} {rest : List Response}

/-- With the listed answers used up, a repeating transport begins its answers again. -/
theorem step_repeats {req : Request} {r : Response} {more : List Response} (hh : s.host = [])
    (hscript : s.script = []) (hlater : s.later = .cycle r more) (hq : s.request = some req)
    (ht : req.toTransport = true) : step s = step { s with script := r :: more } := by
  have hsup := State.supplied_cycle hscript hlater
  obtain ⟨-, -, -, -, -, hstep⟩ := answersTakenInOrder s
  rw [hstep req hh hq ht (by simp [hsup]), hsup]

/-! ### A heartbeat wait and a send that fail for ever -/

theorem step_heartbeatFails (hs : s.state = Code.sWaitHb) (hh : s.host = []) (hscript : s.script = [])
    (hlater : s.later = .cycle .fail []) :
    step s = .next { s with
      trace := s.trace ++ [⟨.recvMatch s.params.hbId s.params.tHb, .fail⟩] } := by
  obtain ⟨-, hwait⟩ := waitHeartbeatResult
  obtain ⟨-, hfail, -⟩ := hwait { s with script := [.fail] } []
  rw [step_repeats hh hscript hlater (stateCode_row rfl rfl hs).2 rfl]
  refine Eq.trans (step_selected hs hh) ((hfail rfl).trans ?_)
  simp [hs, hscript]

theorem run_heartbeatFails (k : ℕ) (hs : s.state = Code.sWaitHb) (hh : s.host = [])
    (hscript : s.script = []) (hlater : s.later = .cycle .fail []) :
    Host.Core.run Sys2Proof.core k s = .next { s with
      trace := s.trace ++
        List.replicate k ⟨.recvMatch s.params.hbId s.params.tHb, .fail⟩ } := by
  induction k generalizing s with
  | zero => simp [Host.Core.run]
  | succ k ih =>
    rw [run_succ k (step_heartbeatFails hs hh hscript hlater)]
    refine Eq.trans (ih hs hh hscript hlater) ?_
    simp [List.replicate_succ]

theorem step_sendFails (hs : s.state = Code.sSend) (hh : s.host = [])
    (hlimit : s.cfg.retryLimit = 0) (hscript : s.script = []) (hlater : s.later = .cycle .fail []) :
    step s = .next { s with
      retry := nextRetry s.retry, trace := s.trace ++ [⟨frameMessage s.params s.frame, .fail⟩] } := by
  rw [step_repeats hh hscript hlater (stateCode_row rfl rfl hs).2 rfl]
  refine (step_failedSend (s := { s with script := [.fail] }) hs hh rfl (.inl hlimit)).trans ?_
  simp [State.answered, dataMessage_eq, hscript]

theorem run_sendFails (k : ℕ) (hs : s.state = Code.sSend) (hh : s.host = [])
    (hlimit : s.cfg.retryLimit = 0) (hscript : s.script = []) (hlater : s.later = .cycle .fail []) :
    ∃ r, Host.Core.run Sys2Proof.core k s = .next { s with
      retry := r, trace := s.trace ++
        List.replicate k ⟨frameMessage s.params s.frame, .fail⟩ } := by
  induction k generalizing s with
  | zero => exact ⟨s.retry, by simp [Host.Core.run]⟩
  | succ k ih =>
    obtain ⟨r, hr⟩ := ih (s := { s with
      retry := nextRetry s.retry, trace := s.trace ++ [⟨frameMessage s.params s.frame, .fail⟩] })
      hs hh hlimit hscript hlater
    refine ⟨r, (run_succ k (step_sendFails hs hh hlimit hscript hlater)).trans (hr.trans ?_)⟩
    simp [List.replicate_succ]

/-! ### Attempts that fail for ever -/

/-- From the flush on, the transport lets a whole phase be sent (R165, R188). -/
theorem streams_flush (hs : s.state = Code.sFlush) (hh : s.host = []) (hok : acceptable s)
    (hlen : fails.length = (nibbles s.params s.image).length / 4)
    (hbelow : ∀ n ∈ fails, s.cfg.retryLimit = 0 ∨ n < s.cfg.retryLimit.toNat)
    (hscript : s.script = .done :: (answersFor fails ++ rest)) :
    ∃ t sends, Streams s t sends ∧ t.state = Code.sAckWait ∧ t.script = rest := by
  obtain ⟨-, hflush⟩ := flushResult
  have hstep := (step_selected hs hh).trans (hflush s _ hscript)
  obtain ⟨t, hrun, ht, -, hrest⟩ := streams_rewind (s := { s with
    script := answersFor fails ++ rest, trace := s.trace ++ [⟨.flush, .done⟩],
    state := Code.sRewind }) rfl hh hok hlen hbelow rfl
  exact ⟨t, _, (Streams.of_step hstep rfl rfl).trans hrun, ht, hrest⟩

/-- The soft path from a failed acknowledgement wait back to the heartbeat wait (R200, R203). -/
theorem run_ackFails (hs : s.state = Code.sAckWait) (hh : s.host = [])
    (hscript : s.script = .fail :: rest) :
    Host.Core.run Sys2Proof.core 2 s = .next { s with
      script := rest, trace := s.trace ++ [⟨.recvMatch s.params.ackId s.params.tAck, .fail⟩],
      cause := SoftCause.fAckMatch.code, state := Code.sWaitHb,
      reports := s.reports ++ [⟨.fail, SoftCause.fAckMatch.code, false⟩] } := by
  obtain ⟨-, hwait⟩ := ackWaitResult
  obtain ⟨-, hfail⟩ := hwait s rest
  obtain ⟨-, hfailed⟩ := failedAttemptResult
  rw [run_succ 1 ((step_selected hs hh).trans (hfail hscript)), run_one]
  exact Eq.trans (step_selected rfl hh) (hfailed _)

/-- The block waits for a heartbeat, and the transport will, over and over, give one, let the image be
streamed, and fail the acknowledgement wait. -/
structure FailsForEver (s : State) (fails : List Nat) : Prop where
  waiting : s.state = Code.sWaitHb
  idle : s.host = []
  script : s.script = []
  accepted : acceptable s
  records : fails.length = (nibbles s.params s.image).length / 4
  below : ∀ n ∈ fails, s.cfg.retryLimit = 0 ∨ n < s.cfg.retryLimit.toNat
  answers : s.later = .cycle .ok (.done :: (answersFor fails ++ [.fail]))

namespace FailsForEver

theorem heartbeat (h : FailsForEver s fails) :
    step s = .next { s with
      script := .done :: (answersFor fails ++ [.fail]),
      trace := s.trace ++ [⟨.recvMatch s.params.hbId s.params.tHb, .ok⟩], state := Code.sFlush } := by
  obtain ⟨-, hwait⟩ := waitHeartbeatResult
  obtain ⟨hok, -⟩ := hwait { s with script := .ok :: .done :: (answersFor fails ++ [.fail]) } _
  rw [step_repeats h.idle h.script h.answers (stateCode_row rfl rfl h.waiting).2 rfl]
  exact Eq.trans (step_selected h.waiting h.idle) (hok rfl)

/-- One attempt fails and leaves everything as before for the next. -/
theorem attempt (h : FailsForEver s fails) : ∃ k t,
    Host.Core.run Sys2Proof.core (k + 1) s = .next t ∧ FailsForEver t fails ∧ t.link = s.link ∧
    t.reports = s.reports ++ [⟨.fail, SoftCause.fAckMatch.code, false⟩] := by
  obtain ⟨t, sends, hstreams, ht, hscript⟩ := streams_flush (s := { s with
    script := .done :: (answersFor fails ++ [.fail]),
    trace := s.trace ++ [⟨.recvMatch s.params.hbId s.params.tHb, .ok⟩], state := Code.sFlush })
    rfl h.idle h.accepted h.records h.below rfl
  have hidle : t.host = [] := hstreams.host_eq.trans h.idle
  obtain ⟨k, hk⟩ := hstreams.run
  have hcfg : t.cfg = s.cfg := (congrArg State.cfg hstreams.kept :)
  have himage : t.image = s.image := (congrArg State.image hstreams.kept :)
  have hlater : t.later = s.later := (congrArg State.later hstreams.kept :)
  have hparams : t.params = s.params := hstreams.params_eq
  refine ⟨k + 2, _, (run_succ (k + 2) h.heartbeat).trans
    ((run_add k 2 hk).trans (run_ackFails ht hidle hscript)), ?_, hstreams.link_eq,
    congrArg (· ++ _) hstreams.reports_eq⟩
  exact {
    waiting := rfl
    idle := hidle
    script := rfl
    accepted := by simpa only [acceptable, hcfg, hparams, himage] using h.accepted
    records := by simpa only [hparams, himage] using h.records
    below := by simpa only [hcfg] using h.below
    answers := hlater.trans h.answers }

/-- Any number of attempts fail, each in at least one step. -/
theorem attempts (h : FailsForEver s fails) (m : ℕ) : ∃ k ≥ m, ∃ t,
    Host.Core.run Sys2Proof.core k s = .next t ∧ FailsForEver t fails ∧ t.link = s.link ∧
    t.reports = s.reports ++ List.replicate m ⟨.fail, SoftCause.fAckMatch.code, false⟩ := by
  induction m generalizing s with
  | zero => exact ⟨0, le_rfl, s, rfl, h, rfl, by simp⟩
  | succ m ih =>
    obtain ⟨j, t, hj, ht, hlink, hreports⟩ := h.attempt
    obtain ⟨k, hkm, u, hk, hu, hlink', hreports'⟩ := ih ht
    exact ⟨j + 1 + k, by omega, u, (run_add (j + 1) k hj).trans hk, hu, hlink'.trans hlink,
      by rw [hreports', hreports, List.replicate_succ, List.append_assoc]; rfl⟩

/-- After any number of steps the run is on the way to the end of an attempt. -/
theorem running (h : FailsForEver s fails) (k : ℕ) :
    ∃ t, Host.Core.run Sys2Proof.core k s = .next t ∧ t.terminal = false := by
  obtain ⟨n, hn, u, hrun, hu, -⟩ := h.attempts k
  obtain ⟨j, rfl⟩ := Nat.exists_eq_add_of_le hn
  obtain ⟨t, hk, hj⟩ := run_split hrun
  exact ⟨t, hk, running_of_run hk hj h.idle (by simp +decide [State.terminal, hu.waiting])⟩

end FailsForEver

/-- Settles O35: a failed wait or send is repeated as it is, and a failed attempt as a whole. -/
theorem runsThatNeverEnd : Obligations.RunsThatNeverEnd := by
  refine fun s hh hscript => ⟨fun hs hlater k => run_heartbeatFails k hs hh hscript hlater,
    fun hs hlimit hlater k => run_sendFails k hs hh hlimit hscript hlater,
    fun fails hs hok hlen hbelow hlater => ?_⟩
  have h : FailsForEver s fails := ⟨hs, hh, hscript, hok, hlen, hbelow, hlater⟩
  refine ⟨fun m => ?_, h.running⟩
  obtain ⟨k, -, t, hk, ht, hlink, hreports⟩ := h.attempts m
  exact ⟨k, t, hk, ht.waiting, hlink, ht.script, ht.answers.trans hlater.symm, hreports⟩

end Sys2Proof.Machine
end

section
/-! PROOF. The failure paths (R221, R224 to R228). What an operation does to `CAUSE` is one of four
things: it keeps it, clears it, or raises a fatal or a soft cause; and up to the raise it has only had its
request answered, or counted a failed send. -/

namespace Sys2Proof.Machine

variable {i : Instr} {s t u : State}

/-! ### What comes before a raise -/

/-- From `s` to `u` the operation `i` has done no more than what comes before a raise: its request is
answered, and in `S_SEND` the failed send is counted (R186). -/
structure BeforeRaise (i : Instr) (s u : State) : Prop where
  same : u = { s with
    retry := u.retry, imgPos := u.imgPos, script := u.script, later := u.later, trace := u.trace }
  retry : u.retry ≠ s.retry → i = .sSend

namespace BeforeRaise

theorem refl : BeforeRaise i s s := ⟨rfl, fun h => absurd rfl h⟩

/-- Completing a request writes nothing of the block. -/
theorem completes {req : Request} {r : Response} (h : Completes s req r u) : BeforeRaise i s u := by
  cases h <;> exact ⟨rfl, fun h => absurd rfl h⟩

theorem link (h : BeforeRaise i s u) : u.link = s.link := by rw [h.same]

theorem reports (h : BeforeRaise i s u) : u.reports = s.reports := by rw [h.same]

end BeforeRaise

/-! ### What an operation does to `CAUSE` -/

/-- The ways in which the operation `i` leaves `CAUSE` when it goes from `s` to `t`. -/
inductive CauseEffect (i : Instr) (s : State) : State → Prop where
  | kept {t : State} : t.cause = s.cause → CauseEffect i s t
  | cleared {t : State} : t.cause = noCause → CauseEffect i s t
  | fatal {u : State} (c : FatalCause) : BeforeRaise i s u → CauseEffect i s (u.raiseFatal c)
  | soft {u : State} (c : SoftCause) : BeforeRaise i s u → CauseEffect i s (u.raiseSoft c)

namespace CauseEffect

/-- A transport request whose response the block handles in one of these ways. -/
theorem tx {req : Request} {k : Response → State → State} (h : s.tx req k = .next t)
    (hk : ∀ r u, u.cause = s.cause → BeforeRaise i s u → CauseEffect i s (k r u)) :
    CauseEffect i s t := by
  rcases State.tx_next h with ⟨-, rfl⟩ | ⟨r, rest, hs, ha, rfl⟩
  · exact .kept rfl
  · exact hk r _ rfl (.completes (.transport hs ha))

/-- The nibble arm (R182) raises `E_MALFORMED` or fills its slot. -/
theorem collect (b v : Byte) : CauseEffect i s ((s.imgByte b).collect v) := by
  rcases (s.imgByte b).collect_cases v with ⟨-, -, e⟩ | ⟨-, ⟨-, e⟩ | ⟨-, e⟩ | ⟨-, e⟩ | ⟨-, e⟩⟩ <;> rw [e]
  exacts [.fatal _ (.completes (.imgByte b)), .kept rfl, .kept rfl, .kept rfl, .kept rfl]

end CauseEffect

theorem execSStart_causeEffect (h : execSStart s = .next t) : CauseEffect .sStart s t := by
  rcases execSStart_next h with ⟨-, rfl⟩ | ⟨-, -, rfl⟩ |
    ⟨-, -, ⟨-, rfl⟩ | ⟨rest, ⟨-, rfl⟩ | ⟨hs, rfl⟩⟩⟩
  exacts [.kept rfl, .fatal .eNodev .refl, .kept rfl, .kept rfl,
    .fatal .eStart (.completes (.transport hs rfl))]

/-- The failed send is counted before the limit is tested (R186). -/
theorem execSSend_causeEffect (h : execSSend s = .next t) : CauseEffect .sSend s t := by
  refine .tx h fun r u hcause hu => ?_
  split
  · exact .kept hcause
  · dsimp only
    split
    · exact .soft .fSendLimit ⟨by rw [hu.same], fun _ => rfl⟩
    · exact .kept hcause

/-- Everything an operation does to `CAUSE`. -/
theorem exec_causeEffect (h : exec i s = .next t) : CauseEffect i s t := by
  cases i with dsimp only [exec] at h
  | nibDigit b | nibAlpha b =>
    cases h
    exact .collect b _
  | nibAt =>
    cases h
    exact .collect atByte _
  | nibSkip b | sRewind | sFailed | sDone | sAborted =>
    cases h
    exact .kept rfl
  | sOpen | sConfig | sGolive =>
    refine .tx h fun r u hcause hu => ?_
    split
    exacts [.kept hcause, .fatal _ hu]
  | sStart => exact execSStart_causeEffect h
  | sWaitHb =>
    refine .tx h fun r u hcause _ => ?_
    split <;> exact .kept hcause
  | sFlush => exact .tx h fun _ _ hcause _ => .kept hcause
  | sFetch =>
    rcases execSFetch_next h with ⟨-, rfl⟩ | ⟨b, -, ⟨-, rfl⟩ | ⟨v, -, rfl⟩⟩
    exacts [.kept rfl, .kept rfl, .collect b v]
  | sSend => exact execSSend_causeEffect h
  | sAckWait =>
    refine .tx h fun r u hcause hu => ?_
    split
    exacts [.kept hcause, .soft _ hu]
  | sAckRead =>
    refine .tx h fun r u _ hu => ?_
    split
    · split
      exacts [.cleared rfl, .soft _ hu]
    · exact .soft _ hu
  | sClose =>
    refine .tx h fun r u hcause _ => ?_
    dsimp only
    split <;> exact .kept hcause
  | reservedState0xF => cases h

/-! ### A raise writes no more than its path -/

/-- The fatal path writes `CAUSE`, `STATE` and, without the handle, one report (R224). -/
theorem State.raiseFatal_same (s : State) (c : FatalCause) :
    s.raiseFatal c = { s with
      cause := c.code, state := (s.raiseFatal c).state, reports := (s.raiseFatal c).reports } := by
  unfold State.raiseFatal
  split <;> rfl

/-! ### The obligations -/

/-- Settles O39: a new cause other than NONE comes from a raise, before which the operation has only had
its request answered or counted a failed send. -/
theorem failuresArePrecise : Obligations.FailuresArePrecise := by
  intro i s t h hnew hcause
  cases exec_causeEffect h with
  | kept hkept => exact absurd hkept hnew
  | cleared hcleared => exact absurd hcleared hcause
  | @fatal u c hu =>
    refine ⟨?_, fun hretry => hu.retry (by simpa using hretry), fun hreports => ?_⟩
    · rw [u.raiseFatal_same c, hu.same]
    · rw [State.raiseFatal_cause, ← hu.link, ← hu.reports]
      exact (u.raiseFatal_reports c).resolve_left fun hlinked =>
        hreports (hlinked.2.trans hu.reports)
  | @soft u c hu =>
    refine ⟨?_, hu.retry, fun hreports => absurd hu.reports hreports⟩
    rw [hu.same]
    rfl

/-- Settles O40: of the operations that write `CAUSE` (R90), those left out aside, one needs Reject mode
and the others put a soft code or NONE. -/
theorem noFatalAfterHeartbeat : Obligations.NoFatalAfterHeartbeat := by
  intro i s t h hcheck hopen hconfig hgolive hstart hfatal
  by_contra hnew
  have hsoft {c : CauseCode} (hc : t.cause = c) (hnot : ¬ isFatalCode c) : False := hnot (hc ▸ hfatal)
  rcases (exec_lawfulWrites h).cause hnew with ⟨hi, -⟩ | ⟨hi, -⟩ | ⟨hi, -⟩ | ⟨hi, -⟩ |
    ⟨-, hreject, -⟩ | ⟨-, hc⟩ | ⟨-, hc⟩ | ⟨-, hc | hc | hc⟩
  · exact hopen hi
  · exact hconfig hi
  · exact hgolive hi
  · exact hstart hi
  · exact Bool.false_ne_true (hcheck.symm.trans hreject)
  · exact hsoft hc SoftCause.fSendLimit.not_isFatal
  · exact hsoft hc SoftCause.fAckMatch.not_isFatal
  · exact hsoft hc noCause_not_isFatal
  · exact hsoft hc SoftCause.fAckRecv.not_isFatal
  · exact hsoft hc SoftCause.fAckValue.not_isFatal

/-- Settles O37: a fatal cause is none of R90's NONE, so the close that follows halts in `S_ABORTED`. -/
theorem fatalPath : Obligations.FatalPath := by
  refine fun s c => ⟨s.raiseFatal_linked c, s.raiseFatal_unlinked c, fun r rest hlink hs hr => ?_⟩
  rw [s.raiseFatal_linked c hlink]
  exact (closeResult.2 { s with cause := c.code, state := Code.sClose } rest r hs hr).2 c.code_ne_none

/-- Settles O38: the return is `S_FAILED`'s own result, in the state that the soft path leaves. -/
theorem softPathAndReturn : Obligations.SoftPathAndReturn :=
  fun s c => ⟨rfl, failedAttemptResult.2 (s.raiseSoft c)⟩

end Sys2Proof.Machine
end

section
/-! PROOF. Runs that only a reset ends (R250 to R252, R266): a reset by the host takes the step whatever
the state, and without one a request that gets no answer and a halted block stay as they are. -/

namespace Sys2Proof.Machine

variable {s : State} {req : Request}

/-- Settles O14: a reset move is taken before `STATE` is read. -/
theorem hostResetTakesPriority : Obligations.HostResetTakesPriority := by
  intro s cfg image sc l rest hreset
  rw [step, hreset]
  rfl

/-- With no answer to come, the step at a transport request changes nothing (R266). -/
theorem step_unanswered (hh : s.host = []) (hnone : s.supplied.script = [])
    (hreq : s.request = some req) (htransport : req.toTransport = true) : step s = .next s := by
  obtain ⟨k, hexec⟩ := exec_request hreq htransport
  rw [step_idle hh, hexec, State.tx_waits hnone]

/-- Settles O42: the step that waits can be taken any number of times. -/
theorem unansweredRequestHangs : Obligations.UnansweredRequestHangs :=
  fun _ _ k hh hnone hreq htransport => run_fixed k (step_unanswered hh hnone hreq htransport)

/-- Settles O43: the two operations hold the state, and a run from a halted state takes no others. -/
theorem haltedUntilReset : Obligations.HaltedUntilReset :=
  ⟨rfl, rfl, fun _ => ⟨rfl, rfl⟩, fun s k hh hs => run_halted k (s.terminal_iff.mpr hs) hh⟩

end Sys2Proof.Machine
end

section
/-! PROOF. Under the premises on the transport a run ends in `S_DONE` (R268): the heartbeat and the flush
lead into a Streaming phase that sends the whole image, the acknowledgement pair is accepted, and the close
ends the run on either answer. -/

namespace Sys2Proof.Machine

variable {s : State} {rest : List Response}

/-- From a heartbeat on, the transport lets a whole phase be sent (R164, R165, R188). -/
theorem streams_heartbeat {fails : List Nat} (hs : s.state = Code.sWaitHb) (hh : s.host = [])
    (hok : acceptable s) (hlen : fails.length = (nibbles s.params s.image).length / 4)
    (hbelow : ∀ n ∈ fails, s.cfg.retryLimit = 0 ∨ n < s.cfg.retryLimit.toNat)
    (hscript : s.script = .ok :: .done :: (answersFor fails ++ rest)) :
    ∃ t sends, Streams s t sends ∧ t.state = Code.sAckWait ∧ t.script = rest := by
  obtain ⟨-, hwait⟩ := waitHeartbeatResult
  obtain ⟨hseen, -⟩ := hwait s (.done :: (answersFor fails ++ rest))
  have hstep := (step_selected hs hh).trans (hseen hscript)
  obtain ⟨t, sends, hrun, ht⟩ := streams_flush (s := { s with
    script := .done :: (answersFor fails ++ rest),
    trace := s.trace ++ [⟨.recvMatch s.params.hbId s.params.tHb, .ok⟩], state := Code.sFlush })
    rfl hh hok hlen hbelow rfl
  exact ⟨t, _, (Streams.of_step hstep rfl rfl).trans hrun, ht⟩

/-- A message that passes the test leads to `S_CLOSE` with no cause (R202). -/
theorem step_ackAccepted {id dlc : Nat} {data : List Byte} (hs : s.state = Code.sAckRead)
    (hh : s.host = []) (hid : id < 2 ^ s.params.idW) (hdlc : dlc ≤ 8) (hlen : data.length = dlc)
    (hvalue : data[s.params.ackIndex]? = some s.params.ackValue)
    (hscript : s.script = .msg id dlc data :: rest) :
    step s = .next { s with
      script := rest, trace := s.trace ++ [⟨.recv s.params.tAck, .msg id dlc data⟩],
      cause := noCause, state := Code.sClose } := by
  have hack : ackAccepted s.params dlc data = true := (ackAccepted_iff_byte hlen).mpr hvalue
  rw [step_selected hs hh]
  refine (execSAckRead_msg hscript hid hdlc hlen).trans ?_
  rw [if_pos hack, if_pos hack]

/-- The completion of a run: the acknowledgement pair accepted, and the close answered
(R200, R202, R204). -/
theorem run_completion {id dlc : Nat} {data : List Byte} {r : Response}
    (hs : s.state = Code.sAckWait) (hh : s.host = []) (hid : id < 2 ^ s.params.idW) (hdlc : dlc ≤ 8)
    (hlen : data.length = dlc) (hvalue : data[s.params.ackIndex]? = some s.params.ackValue)
    (hr : r = .ok ∨ r = .fail) (hscript : s.script = .ok :: .msg id dlc data :: r :: rest) :
    Host.Core.run Sys2Proof.core 3 s = .next { s with
      script := rest, cause := noCause, link := false, closeErr := decide (r = .fail),
      reports := s.reports ++ [⟨.success, noCause, decide (r = .fail)⟩], state := Code.sDone,
      trace := s.trace ++ [ackMatched s.params] ++ [⟨.recv s.params.tAck, .msg id dlc data⟩] ++
        [⟨.closeCh, r⟩] } := by
  obtain ⟨-, hwait⟩ := ackWaitResult
  obtain ⟨hmatched, -⟩ := hwait s (.msg id dlc data :: r :: rest)
  obtain ⟨-, hclose⟩ := closeResult
  obtain ⟨hdone, -⟩ := hclose { s with
    script := r :: rest, cause := noCause, state := Code.sClose,
    trace := s.trace ++ [ackMatched s.params] ++ [⟨.recv s.params.tAck, .msg id dlc data⟩] }
    rest r rfl hr
  rw [run_succ 2 ((step_selected hs hh).trans (hmatched hscript))]
  refine Eq.trans (run_succ 1 (step_ackAccepted rfl hh hid hdlc hlen hvalue rfl)) ?_
  rw [run_one]
  exact Eq.trans (step_selected rfl hh) (hdone rfl)

/-- Settles O60: the run is the handshake with the whole phase, and then the completion. -/
theorem runReachesDone : Obligations.RunReachesDone := by
  intro s fails id dlc data r rest hs hh hok hfails hbelow hid hdlc hlen hvalue hr hscript
  obtain ⟨t, sends, hstreams, ht, hanswers⟩ := streams_heartbeat hs hh hok hfails hbelow hscript
  obtain ⟨k, hk⟩ := hstreams.run
  rw [← hstreams.params_eq] at hid hvalue
  have hend := run_completion ht (hstreams.host_eq.trans hh) hid hdlc hlen hvalue hr hanswers
  exact ⟨k + 3, _, (run_add k 3 hk).trans hend, rfl, rfl, rfl, rfl, rfl,
    congrArg (· ++ _) hstreams.reports_eq⟩

end Sys2Proof.Machine
end
